-- ==== Sys2Proof/Word.lean ====
section
/-!
DEFINITION. Bytes, and tables of a fixed number of like records.

The manual counts in whole numbers (§2.1), so quantities, numbers and times are `Nat`; only what the
manual treats as bits (bytes on a line, route values, CRCs) is a bit vector.
-/

namespace Sys2Proof

/-- One byte on a serial link. -/
abbrev Byte := BitVec 8

/-- A fixed number `n` of like records, numbered from 0 (doors, lanes, trucks, depots, ...). -/
structure Table (n : Nat) (α : Type) where
  rows : List α
  size : rows.length = n
  deriving DecidableEq, Repr

/-- The table whose records are all `a`. -/
def Table.fill (n : Nat) (a : α) : Table n α := ⟨List.replicate n a, List.length_replicate⟩

/-- Record `i`; a number past the table's end reads the type's default record. -/
def Table.get [Inhabited α] (t : Table n α) (i : Nat) : α := t.rows.getD i default

/-- The table with record `i` replaced; a number past the end changes nothing. -/
def Table.set (t : Table n α) (i : Nat) (a : α) : Table n α :=
  ⟨t.rows.set i a, by rw [List.length_set, t.size]⟩

/-- The table with every record replaced by its image. -/
def Table.map (f : α → β) (t : Table n α) : Table n β :=
  ⟨t.rows.map f, by rw [List.length_map, t.size]⟩

end Sys2Proof
end

