-- ==== Sys2Proof/Config.lean ====
section
/-!
DEFINITION. What the part fixes: its capacities and constants, and the values the manual leaves open.
-/

namespace Sys2Proof.Config

/-- Seconds of a day; times of day run from 0 to 86399 (§2.1). -/
def daySeconds : Nat := 86400

/-- The divisor after power-on and the reset pin (R1). -/
def defaultDivisor : Nat := 10000000

/-- Most pallet records in the pallet table (R28). -/
def maxPallets : Nat := 4096

/-- Most trailer records in the pool (§4.3). -/
def maxTrailers : Nat := 64

/-- Slots of the floor reply queue (R151, R153). -/
def maxReplies : Nat := 16

/-- Most notices in the floor notice queue (R154). -/
def maxNotices : Nat := 32

/-- Most ordinary entries of the exception list (R163). -/
def maxOrdinary : Nat := 63

/-- Most complete frames in the station receive queue (R172). -/
def maxFrames : Nat := 32

/-- Greatest length of a station frame's body, in either direction (R171, R175). -/
def maxBody : Nat := 1020

/-- The holdoff after a clear timeout, in milliseconds (§8.1). -/
def holdoffMs : Nat := 1000

/-- A trailer's counts run from 0 to 65535 (§4.3), and R53 raises them without saying what a count of
65535 becomes. The count after raising `count` by `by_` past 65535 is this free value; nothing is known of it.
DESIGN CHOICE, safe (log entry 18). -/
opaque countPast : (count by_ : Nat) → BitVec 16

/-- R53 makes a trailer's expected count fall by one, and says nothing of a count that stands at 0, which only a count past
65535 can come to while a record is EXPECTED on the trailer. The count after it is this free value; nothing is known of it.
DESIGN CHOICE, safe (log entry 18). -/
opaque countBelow : BitVec 16

/-- The reported kingpin load K is W - A (R104), and its field has two bytes with no sign (§10.6). What the field
carries when A is greater than W is this free value; nothing is known of it.
DESIGN CHOICE, safe (log entry 18). -/
opaque kingpinBelow : (weight axle : Nat) → BitVec 16

end Sys2Proof.Config
end

