-- ==== Sys2Proof/Syntax.lean ====
section
/-!
DEFINITION. The commands and events the 7240 acts on: one constructor of `Instr` for each row of
spec/opcode_table.json, with the operands the manual gives it.

Three senders speak to the part: the reference clock and pins (time events and line events carry the
number of the door, trailer, group or truck they are about), the lift-truck terminals (floor messages
carry the truck number and the body fields of §8.5), and the depot computer (commands carry the frame's
tag byte and the body fields their rule names, in the rule's order, as read from the frame; a code that
may name nothing stays a number here, so that the rule's own refusal can be given).
-/

namespace Sys2Proof

/-- The four night times (R6). -/
inductive NightTime where
  | topen | ttransfer | tclose | tend
  deriving DecidableEq, Repr, Inhabited

/-- A location is a door or a lane (§2.3). -/
inductive Location where
  | door (n : Nat)
  | lane (n : Nat)
  deriving DecidableEq, Repr, Inhabited

/-- The label fields of a pallet, as printed (label block, §10.7, less the pallet id). The class code is
1 for STANDARD and 2 for PREMIUM; the hazard group is 0 for none. -/
structure Label where
  route   : BitVec 24
  weight  : Nat
  height  : Nat
  topLoad : Nat
  hazard  : Nat
  cls     : Nat
  hold    : Bool
  deriving DecidableEq, Repr, Inhabited

/-- One label block of a Manifest (§10.7). -/
structure ManifestEntry where
  id    : Nat
  label : Label
  deriving DecidableEq, Repr, Inhabited

/-- The dispatch settings (§7.1), in the order of their table. -/
structure DispatchSettings where
  loadSlots    : Nat
  urgencyLead  : Nat
  offerTime    : Nat
  unloadLimit  : Nat
  loadLimit    : Nat
  relocLimit   : Nat
  laneBase     : Nat
  doorBase     : Nat
  directBase   : Nat
  relocBase    : Nat
  changeover   : Nat
  deriving DecidableEq, Repr, Inhabited

/-- The floor channel settings (§8.1). -/
structure ChannelSettings where
  rate         : Nat
  leadIn       : Nat
  burstLimit   : Nat
  guardTime    : Nat
  clearTimeout : Nat
  deriving DecidableEq, Repr, Inhabited

/-- The fields SetClass carries (§6.1): the class's figures, the side pattern as a code. -/
structure ClassFields where
  rows    : Nat
  hmax    : Nat
  wmax    : Nat
  axleX   : Nat
  kmax    : Nat
  amax    : Nat
  tiers   : Nat
  dlat    : Option Nat
  pattern : Nat
  flip    : Bool
  deriving DecidableEq, Repr, Inhabited

/-- The fields SetDoor carries (R46). -/
structure DoorFields where
  enabled     : Bool
  polarity    : Nat
  debounce    : Nat
  callTime    : Nat
  unloadLimit : Nat
  loadLimit   : Nat
  deriving DecidableEq, Repr, Inhabited

/-- The fields SetDepot carries after the depot code (R20). -/
structure DepotFields where
  enabled  : Bool
  home     : Option Nat
  group    : List Nat
  priority : Bool
  deriving DecidableEq, Repr, Inhabited

/-- The fields Announce carries (R50). -/
structure AnnounceFields where
  fleet       : Nat
  role        : Nat
  origin      : Nat
  near        : Nat
  far         : Option Nat
  cls         : Nat
  window      : Option (Nat × Nat)
  tdep        : Nat
  closingLead : Nat
  switchLead  : Nat
  deriving DecidableEq, Repr, Inhabited

/-- The changes AmendTrailer carries (R51, §10.7): a far drop of 0 removes the far drop. -/
structure AmendFields where
  tdep        : Option Nat
  closingLead : Option Nat
  switchLead  : Option Nat
  far         : Option Nat
  deriving DecidableEq, Repr, Inhabited

/-- A complete station frame, less start byte, length and CRC (§10.7). -/
structure Frame where
  kind : Byte
  tag  : Byte
  body : List Byte
  deriving DecidableEq, Repr, Inhabited

/-- The part's steps: one constructor for each row of spec/opcode_table.json, in the table's order. -/
inductive Instr where
  -- the pins, the clock and the stored times
  /-- POWER_ON, with the levels of the strap pins RATE1 and RATE0 (R182, R170). -/
  | powerOn (rate1 rate0 : Bool)
  /-- RESET_PIN_RELEASE, with the levels of the strap pins (R182, R170). -/
  | resetPinRelease (rate1 rate0 : Bool)
  /-- TICK (R1). -/
  | tick
  /-- PHASE_TIME_REACHED: which of the four night times (R8). -/
  | phaseTimeReached (time : NightTime)
  /-- SENSE_LINE_CHANGE: the level door `door`'s sense line now has (R47). -/
  | senseLineChange (door : Nat) (high : Bool)
  /-- LINE_EVENT: the debounce count of a door completes (R47, R48). -/
  | lineEvent (door : Nat)
  /-- CALL_TIMER_END (R57). -/
  | callTimerEnd (door : Nat)
  /-- WINDOW_START_REACHED (R55). -/
  | windowStartReached (fleet : Nat)
  /-- CLOSING_TIME_REACHED (R65). -/
  | closingTimeReached (fleet : Nat)
  /-- SWITCH_TIME_REACHED (R67). -/
  | switchTimeReached (fleet : Nat)
  /-- TDEP_REACHED (R71). -/
  | tdepReached (fleet : Nat)
  /-- CENSUS_DUE_TIME (R90). -/
  | censusDueTime (group : Nat)
  /-- CENSUS_TIMEOUT (R96). -/
  | censusTimeout (group : Nat)
  /-- OFFER_TIMER_END (R132). -/
  | offerTimerEnd (truck : Nat)
  /-- TASK_DEADLINE (R144). -/
  | taskDeadline (truck : Nat)
  -- received floor messages (§8.5)
  /-- LOGON (R124). -/
  | logon (truck : Nat)
  /-- LOGOFF (R126). -/
  | logoff (truck : Nat)
  /-- BREAK (R125). -/
  | takeBreak (truck : Nat)
  /-- RESUME (R125). -/
  | resume (truck : Nat)
  /-- ACCEPT (R132). -/
  | accept (truck : Nat)
  /-- DECLINE (R132). -/
  | decline (truck : Nat)
  /-- TAKE, with the pallet id and, when it carries them, the label fields (R136). -/
  | take (truck : Nat) (pallet : Nat) (label : Option Label)
  /-- DROP, with the pallet id and the location scanned (R142). -/
  | drop (truck : Nat) (pallet : Nat) (at_ : Location)
  /-- RUN_END (R134). -/
  | runEnd (truck : Nat)
  /-- EMPTY_TRAILER (R63, R137). -/
  | emptyTrailer (truck : Nat)
  /-- FLOOR_FRAME_DISCARDED, with the bytes gathered (R150). -/
  | floorFrameDiscarded (bytes : List Byte)
  /-- FLOOR_BYTE_GAP_TIMEOUT (R150). -/
  | floorByteGapTimeout
  -- the modem's lines and the floor transmitter (§8.6)
  /-- CLR_ASSERTED (R156). -/
  | clrAsserted
  /-- CD_ASSERTED (R156). -/
  | cdAsserted
  /-- CD_CLEARS (R156). -/
  | cdClears
  /-- CLEAR_TIMER_EXPIRY (R158). -/
  | clearTimerExpiry
  /-- HOLDOFF_END (R158). -/
  | holdoffEnd
  /-- GUARD_TIME_END (R157). -/
  | guardTimeEnd
  /-- LEAD_IN_SENT (R157). -/
  | leadInSent
  /-- FLOOR_FRAME_SENT (R159). -/
  | floorFrameSent
  -- the station link's line (chapter 10)
  /-- STATION_FRAME_COMPLETE, with the frame's bytes from the start byte on (R171, R172). -/
  | stationFrameComplete (bytes : List Byte)
  /-- FRAME_DISCARDED, with the bytes gathered from the start byte on (R171). -/
  | frameDiscarded (bytes : List Byte)
  /-- STATION_BYTE_GAP_TIMEOUT, with the gap in REFCLK periods (R170, R171). -/
  | stationByteGapTimeout (gap : Nat)
  /-- STATION_FRAME_SENT (R177, R179). -/
  | stationFrameSent
  /-- SURVEY_END (R184). -/
  | surveyEnd
  -- commands of the depot computer, each with its frame's tag (§10.4)
  /-- IDENTIFY (R186). -/
  | identify (tag : Byte)
  /-- SET_CLOCK (R3). -/
  | setClock (tag : Byte) (time : Nat)
  /-- SET_NIGHT: Topen, Ttransfer, Tclose, Tend (R6). -/
  | setNight (tag : Byte) (topen ttransfer tclose tend : Nat)
  /-- SET_TIMING (R2). -/
  | setTiming (tag : Byte) (divisor : Nat)
  /-- SET_DISPATCH (R122). -/
  | setDispatch (tag : Byte) (settings : DispatchSettings)
  /-- SET_CHANNEL (R149). -/
  | setChannel (tag : Byte) (settings : ChannelSettings)
  /-- SET_CENSUS: P, G and Tc (R89). -/
  | setCensus (tag : Byte) (interval groups timeout : Nat)
  /-- SET_CLASS (R100). -/
  | setClass (tag : Byte) (cls : Nat) (fields : ClassFields)
  /-- SET_DOOR (R46). -/
  | setDoor (tag : Byte) (door : Nat) (fields : DoorFields)
  /-- SET_LANE: the binding in the form of LaneReport (a depot, 0x80 HOLD, 0 NONE), capacity, high mark (R76). -/
  | setLane (tag : Byte) (lane binding capacity high : Nat)
  /-- SET_DEPOT (R20, R21). -/
  | setDepot (tag : Byte) (depot : Nat) (fields : DepotFields)
  /-- SET_ROUTE: entry, match, mask and depot (R15). -/
  | setRoute (tag : Byte) (entry pat mask depot : Nat)
  /-- CLEAR_ROUTE, one entry (R16). -/
  | clearRoute (tag : Byte) (entry : Nat)
  /-- CLEAR_ROUTE_ALL (R16). -/
  | clearRouteAll (tag : Byte)
  /-- START (R183). -/
  | start (tag : Byte)
  /-- RESTART (R185). -/
  | restart (tag : Byte)
  /-- ADVANCE_PHASE (R9). -/
  | advancePhase (tag : Byte)
  /-- ANNOUNCE (R50). -/
  | announce (tag : Byte) (fields : AnnounceFields)
  /-- MANIFEST: the fleet number, the count field, the whole label blocks the body holds, and the number of
  bytes left over after them (R29 to R31). -/
  | manifest (tag : Byte) (fleet count : Nat) (entries : List ManifestEntry) (excess : Nat)
  /-- GATE_ARRIVAL (R54). -/
  | gateArrival (tag : Byte) (fleet : Nat)
  /-- AMEND_TRAILER (R51). -/
  | amendTrailer (tag : Byte) (fleet : Nat) (fields : AmendFields)
  /-- AT_DOOR (R58, R59). -/
  | atDoor (tag : Byte) (door fleet : Nat)
  /-- END_UNLOAD (R63). -/
  | endUnload (tag : Byte) (fleet : Nat)
  /-- SWITCH_DROP (R118). -/
  | switchDrop (tag : Byte) (fleet : Nat)
  /-- CLOSE_TRAILER (R66). -/
  | closeTrailer (tag : Byte) (fleet : Nat)
  /-- CANCEL_TRAILER (R52). -/
  | cancelTrailer (tag : Byte) (fleet : Nat)
  /-- QUERY_PALLET, a nonzero pallet id (R43). -/
  | queryPallet (tag : Byte) (pallet : Nat)
  /-- QUERY_PALLET_SUMMARY, pallet id 0 (R44). -/
  | queryPalletSummary (tag : Byte)
  /-- HOLD_ON_ARRIVAL (R39). -/
  | holdOnArrival (tag : Byte) (pallet : Nat)
  /-- RELEASE_HELD, with the destination when one is carried (R40). -/
  | releaseHeld (tag : Byte) (pallet : Nat) (dest : Option Nat)
  /-- QUERY_LANE, a lane number other than 255 (R98). -/
  | queryLane (tag : Byte) (lane : Nat)
  /-- QUERY_CENSUS_SUMMARY, lane number 255 (R98). -/
  | queryCensusSummary (tag : Byte)
  /-- CENSUS_NOW_LANE (R91). -/
  | censusNowLane (tag : Byte) (lane : Nat)
  /-- CENSUS_NOW_GROUP (R91). -/
  | censusNowGroup (tag : Byte) (group : Nat)
  /-- CENSUS_RESULT: the lane, the count field, the whole pallet ids the body holds, and the number of bytes
  left over after them (R94). -/
  | censusResult (tag : Byte) (lane count : Nat) (pallets : List Nat) (excess : Nat)
  /-- QUERY_DOOR (R73). -/
  | queryDoor (tag : Byte) (door : Nat)
  /-- QUERY_PLAN: door, selector code, and the first row when the body carries one (R120, R175). -/
  | queryPlan (tag : Byte) (door selector : Nat) (first : Option Nat)
  /-- QUERY_TRUCK, a truck number other than 255 (R148). -/
  | queryTruck (tag : Byte) (truck : Nat)
  /-- QUERY_SCHEDULER_SUMMARY, truck number 255 (R148). -/
  | querySchedulerSummary (tag : Byte)
  /-- QUERY_TRAILER, a nonzero fleet number (R74). -/
  | queryTrailer (tag : Byte) (fleet : Nat)
  /-- QUERY_TRAILER_SUMMARY, fleet number 0 (R74). -/
  | queryTrailerSummary (tag : Byte)
  /-- QUERY_DEPOT (R27). -/
  | queryDepot (tag : Byte) (depot : Nat)
  /-- READ_EXCEPTIONS: starting position and maximum number (R165). -/
  | readExceptions (tag : Byte) (start maximum : Nat)
  /-- CLEAR_EXCEPTION: kind code, subject type, subject number, guard count (R166). -/
  | clearException (tag : Byte) (kind subjectType subject guardCount : Nat)
  /-- CLEAR_EXCEPTION_ALL (R167). -/
  | clearExceptionAll (tag : Byte)
  /-- UNKNOWN_COMMAND: a frame whose kind is not in the catalogue, or whose body does not have the form its
  kind requires; both are answered BAD_FORM (R173). -/
  | unknownCommand (frame : Frame)
  /-- RESET_PIN_ASSERT (R182). -/
  | resetPinAssert
  deriving DecidableEq, Repr, Inhabited

end Sys2Proof
end

