-- ==== Sys2Proof/Machine/State.lean ====
section
/-!
DEFINITION. The state of the 7240, block by block (§1.3), as plain data, and its value after reset.

Numbers of doors, lanes, trucks, groups and classes count from 0. Depot `d` (1 to 127) is record `d - 1`
of the depot table. Collections the manual keeps without an order (the pallet table, the trailer pool, a
bay's contents) are lists in ascending number, so that equal collections are equal lists.
-/

namespace Sys2Proof.Machine

/-- Why the machine stops with a fault. The manual stops for nothing ("The floor does not stop for a fault",
chapter 9), so there is no such reason and no constructor: safe. -/
inductive Fault where
  deriving DecidableEq, Repr

/-- Why a command has no meaning here. -/
inductive Refusal where
  /-- Raised by `exec` alone, for a command whose meaning is not written yet. Safe: nothing is claimed of it. -/
  | notModelled (mnemonic : String)
  deriving DecidableEq, Repr

/-! ### Night clock (chapter 1) and start-up (chapter 11) -/

/-- The phase of the night (§1.4); the sub-state *ending* is a flag beside it. -/
inductive Phase where
  | unconfigured | idle | intake | transfer | close
  deriving DecidableEq, Repr, Inhabited

/-- The night clock's state (§1.1, §1.3, §1.4). `secondDivisor` is the divisor that governs the second now
running (R2): the one in force when that second began. -/
structure NightClock where
  second        : Nat
  sub           : Nat
  divisor       : Nat
  secondDivisor : Nat
  valid         : Bool
  topen         : Nat
  ttransfer     : Nat
  tclose        : Nat
  tend          : Nat
  nightValid    : Bool
  phase         : Phase
  ending        : Bool
  rolledOver    : Bool
  deriving DecidableEq, Repr, Inhabited

/-- The events stored times give when they are reached (R4), by kind and owner. -/
inductive TimeEvent where
  | phaseTime (t : NightTime)
  | callTimer (door : Nat)
  | windowStart (fleet : Nat)
  | closing (fleet : Nat)
  | switch (fleet : Nat)
  | tdep (fleet : Nat)
  | censusDue (group : Nat)
  | censusTimeout (group : Nat)
  | offer (truck : Nat)
  | deadline (truck : Nat)
  deriving DecidableEq, Repr, Inhabited

/-- A time event that a tick has reached and that is not yet taken, with the time reached. -/
structure Due where
  event : TimeEvent
  time  : Nat
  deriving DecidableEq, Repr, Inhabited

/-- A count of REFCLK periods: how many have passed, and how many complete it (R47, R184). -/
structure PeriodCount where
  elapsed : Nat
  total   : Nat
  deriving DecidableEq, Repr, Inhabited

/-- The reset cause Identify reports (R182, R186). -/
inductive ResetCause where
  | power | pin | restart
  deriving DecidableEq, Repr, Inhabited

/-- Start-up state (chapter 11): the survey runs while its count is present. `resetHeld` says that the reset
pin is held low. -/
structure StartUp where
  cause      : ResetCause
  configured : Bool
  survey     : Option PeriodCount
  resetHeld  : Bool
  deriving DecidableEq, Repr, Inhabited

/-! ### Route table and depot table (chapter 2) -/

/-- A route entry (§2.2). -/
structure RouteEntry where
  pattern : BitVec 20
  mask    : BitVec 20
  depot   : Nat
  valid   : Bool
  deriving DecidableEq, Repr, Inhabited

/-- A depot record (§2.5), less the code, which is its place in the table. -/
structure DepotRec where
  enabled       : Bool
  home          : Option Nat
  group         : List Nat
  priority      : Bool
  expected      : Nat
  moving        : Nat
  staged        : Nat
  held          : Nat
  loaded        : Nat
  loadedTonight : Nat
  deriving DecidableEq, Repr, Inhabited

/-! ### Pallet table (chapter 3) -/

/-- The six pallet states (§3.3). -/
inductive PalletState where
  | expected | moving | staged | held | loaded | missing
  deriving DecidableEq, Repr, Inhabited

/-- The last place a MISSING pallet was known to be (§3.2). -/
inductive LastPlace where
  | truck (n : Nat)
  | lane (n : Nat)
  | trailer (fleet : Nat)
  deriving DecidableEq, Repr, Inhabited

/-- A record's state together with the location that goes with it (§3.2). -/
inductive Whereabouts where
  | expected (fleet : Nat)
  | moving (truck : Nat)
  | staged (lane : Nat)
  | held (lane : Nat)
  | loaded (fleet row side tier : Nat)
  | missing (last : LastPlace)
  deriving DecidableEq, Repr, Inhabited

/-- The state of a record with that location. -/
def Whereabouts.state : Whereabouts → PalletState
  | .expected _ => .expected
  | .moving _ => .moving
  | .staged _ => .staged
  | .held _ => .held
  | .loaded .. => .loaded
  | .missing _ => .missing

/-- The service classes (§3.2). -/
inductive Service where
  | standard | premium
  deriving DecidableEq, Repr, Inhabited

/-- A pallet record (§3.2). -/
structure PalletRec where
  id        : Nat
  origin    : Nat
  dest      : Nat
  route     : BitVec 24
  weight    : Nat
  height    : Nat
  topLoad   : Nat
  hazard    : Option Nat
  service   : Service
  hold      : Bool
  saturated : Bool
  roll      : Nat
  inbound   : Option Nat
  place     : Whereabouts
  deriving DecidableEq, Repr, Inhabited

/-! ### Load planner (chapter 6) -/

/-- The side patterns (§6.1). -/
inductive SidePattern where
  | fixed | alternate | paired
  deriving DecidableEq, Repr, Inhabited

/-- A trailer class record (§6.1). -/
structure ClassRec where
  rows    : Nat
  hmax    : Nat
  wmax    : Nat
  axleX   : Nat
  kmax    : Nat
  amax    : Nat
  tiers   : Nat
  dlat    : Option Nat
  pattern : SidePattern
  flip    : Bool
  valid   : Bool
  deriving DecidableEq, Repr, Inhabited

/-- An entry of a stack (R102). -/
structure Entry where
  id        : Nat
  weight    : Nat
  height    : Nat
  topLoad   : Nat
  hazard    : Option Nat
  dest      : Nat
  confirmed : Bool
  deriving DecidableEq, Repr, Inhabited

/-- The sides of a row (§2.3). -/
inductive Side where
  | a | b
  deriving DecidableEq, Repr, Inhabited

/-- A row of the load floor: its two stacks, each bottom first (§6.3). -/
structure PlanRow where
  a : List Entry
  b : List Entry
  deriving DecidableEq, Repr, Inhabited

/-- Which drop depot is the current drop (§6.3). -/
inductive DropPhase where
  | far | near
  deriving DecidableEq, Repr, Inhabited

/-- The seal conditions that failed (R119). -/
structure SealResult where
  axle    : Bool
  kingpin : Bool
  lateral : Bool
  deriving DecidableEq, Repr, Inhabited

/-- A load plan, the content of one plan buffer (§6.3). -/
structure Plan where
  fleet      : Nat
  classNo    : Nat
  figures    : ClassRec
  near       : Nat
  far        : Option Nat
  parity     : Nat
  drop       : DropPhase
  openRow    : Nat
  rows       : List PlanRow
  weight     : Nat
  moment     : Nat
  weightA    : Nat
  weightB    : Nat
  reserved   : Nat
  lost       : Nat
  loading    : Bool
  sealResult : Option SealResult
  deriving DecidableEq, Repr, Inhabited

/-! ### Door unit (chapter 4) -/

/-- Which level of a sense line means a trailer is docked (§4.1). -/
inductive Polarity where
  | presentHigh | presentLow
  deriving DecidableEq, Repr, Inhabited

/-- The door states (§4.2). -/
inductive DoorState where
  | off | free | called | arrived | bound
  deriving DecidableEq, Repr, Inhabited

/-- The states of a plan buffer (§4.6). -/
inductive BufferState where
  | free | live | frozen
  deriving DecidableEq, Repr, Inhabited

/-- A plan buffer: its state, owned by the door unit, and its plan, owned by the load planner (§4.6). -/
structure Buffer where
  state : BufferState
  plan  : Option Plan
  deriving DecidableEq, Repr, Inhabited

/-- A door record (§4.1). `line` is the level of the sense line itself; `present` the debounced level;
`count` the debounce count in progress; `called` the called or expected trailer; `recent` the number of the
more recently frozen buffer. -/
structure DoorRec where
  enabled     : Bool
  polarity    : Polarity
  debounce    : Nat
  callTime    : Nat
  unloadLimit : Nat
  loadLimit   : Nat
  line        : Bool
  present     : Bool
  count       : Option PeriodCount
  state       : DoorState
  called      : Option Nat
  callEnd     : Option Nat
  arrival     : Option Nat
  bound       : Option Nat
  queue       : List Nat
  buffer0     : Buffer
  buffer1     : Buffer
  recent      : Option Nat
  parity      : Nat
  deriving DecidableEq, Repr, Inhabited

/-- The trailer roles (§4.3). -/
inductive Role where
  | swap | inbound | outbound
  deriving DecidableEq, Repr, Inhabited

/-- The trailer states, in the order of their codes 0 to 9 (§4.3). -/
inductive TrailerState where
  | announced | yard | called | unloading | ready | loading | closing | sealed | emptied | departed
  deriving DecidableEq, Repr, Inhabited

/-- A trailer record (§4.3). The closing time and the switch time follow from Tdep and the leads. -/
structure TrailerRec where
  fleet       : Nat
  role        : Role
  origin      : Nat
  near        : Nat
  far         : Option Nat
  cls         : Nat
  window      : Option (Nat × Nat)
  tdep        : Nat
  closingLead : Nat
  switchLead  : Nat
  gate        : Option Nat
  dock        : Option Nat
  lapses      : Nat
  late        : Bool
  early       : Bool
  expected    : Nat
  taken       : Nat
  loaded      : Nat
  door        : Option Nat
  buffer      : Option (Nat × Nat)
  state       : TrailerState
  deriving DecidableEq, Repr, Inhabited

/-! ### Lane store (chapter 5) -/

/-- What a lane is bound to (§5.1). -/
inductive Binding where
  | none | hold
  | depot (d : Nat)
  deriving DecidableEq, Repr, Inhabited

/-- The lane states (§5.1). -/
inductive LaneState where
  | off | open_ | pending | locked
  deriving DecidableEq, Repr, Inhabited

/-- A lane record (§5.1); the discipline follows from the binding. -/
structure LaneRec where
  binding    : Binding
  capacity   : Nat
  high       : Nat
  state      : LaneState
  contents   : List Nat
  reserved   : Nat
  nearlyFull : Bool
  holder     : Option Nat
  claim      : Option Nat
  tasksOut   : Nat
  stalled    : Option Nat
  unverified : Bool
  lastCensus : Option Nat
  deriving DecidableEq, Repr, Inhabited

/-- The stages of a census (§5.5). -/
inductive Stage where
  | none | pending | locked
  deriving DecidableEq, Repr, Inhabited

/-- A census group record (§5.5). -/
structure GroupRec where
  stage    : Stage
  lanes    : List Nat
  nextDue  : Option Nat
  timerEnd : Option Nat
  deriving DecidableEq, Repr, Inhabited

/-- The census settings and the four group records (§5.5). -/
structure Census where
  interval : Nat
  groups   : Nat
  timeout  : Nat
  group    : Table 4 GroupRec
  deriving DecidableEq, Repr

/-! ### Move scheduler (chapter 7) -/

/-- The run kinds (§7.1). -/
inductive RunKind where
  | unload | load | reloc
  deriving DecidableEq, Repr, Inhabited

/-- A run offered to or held by a truck (§7.1). `target` is the door of a LOAD run. `begun` says that the run
has created its first task, so that R141's first-of-run mark can be set. -/
structure Run where
  kind      : RunKind
  source    : Location
  target    : Option Nat
  remaining : Nat
  closing   : Bool
  breakMark : Bool
  begun     : Bool
  deriving DecidableEq, Repr, Inhabited

/-- Where a pallet is to be dropped: a lane, or a door with row, side and tier (§7.9). -/
inductive Target where
  | lane (n : Nat)
  | door (n row : Nat) (side : Side) (tier : Nat)
  deriving DecidableEq, Repr, Inhabited

/-- The location a target names. -/
def Target.location : Target → Location
  | .lane n => .lane n
  | .door n .. => .door n

/-- A task, less its truck, whose record holds it (§7.9). It is OPEN when `open_` is set and ISSUING otherwise.
Its reservation is the place or the plan entry that its target names. -/
structure Task where
  pallet   : Nat
  kind     : RunKind
  source   : Location
  target   : Target
  open_    : Bool
  deadline : Option Nat
  first    : Bool
  deriving DecidableEq, Repr, Inhabited

/-- The truck states, in the order of their codes 0 to 5 (§10.7). -/
inductive TruckState where
  | off | free | offered | onRun | onBreak | absent
  deriving DecidableEq, Repr, Inhabited

/-- A lift-truck record (§7.1). -/
structure TruckRec where
  state     : TruckState
  freeSince : Option Nat
  lastLoc   : Option Location
  run       : Option Run
  offerEnd  : Option Nat
  task      : Option Task
  deriving DecidableEq, Repr, Inhabited

/-- The move scheduler's state beside the truck records (§7.1). The task list is the trucks' open tasks. -/
structure Scheduler where
  freeQueue : List Nat
  counter   : Nat
  settings  : DispatchSettings
  deriving DecidableEq, Repr, Inhabited

/-! ### Floor channel (chapter 8) -/

/-- The reasons of a Refused, in the order of their codes 1 to 14 (R155). The last seven are the planner's. -/
inductive Reason where
  | notOnRun | taskOpen | unknown | tableFull | duplicateLabel | noPlace | wrongPallet
  | drop | overWeight | height | noRoom | hazard | axle | lateral
  deriving DecidableEq, Repr, Inhabited

/-- The messages the part sends to terminals (R155). A LogonAck with no state carries the mark "not started". -/
inductive FloorMsg where
  | logonAck (state : Option TruckState) (run : Option Run) (task : Option Task)
  | runOffer (run : Run)
  | dropInstruct (pallet : Nat) (target : Target)
  | dropOk (runStart : Bool) (remaining : Nat) (head : Option Nat)
  | refused (pallet : Nat) (reason : Reason)
  | wrongDrop (pallet : Nat) (target : Target)
  | tooLate (pallet : Nat) (recovered : Bool)
  | runOver
  | redirect (pallet : Nat) (target : Option Target)
  deriving DecidableEq, Repr, Inhabited

/-- A waiting message. `onAir` marks the one whose frame is being sent; `opens` marks the DropInstruct of a
task that still stands, whose sent event opens that task (R141). -/
structure Waiting where
  truck : Nat
  msg   : FloorMsg
  onAir : Bool
  opens : Bool
  deriving DecidableEq, Repr, Inhabited

/-- The transmitter's states (§8.6). -/
inductive TxState where
  | quiet | keying | yielded | sending | guard | holdoff
  deriving DecidableEq, Repr, Inhabited

/-- The floor channel's state (chapter 8). `settings.rate` is the rate set; `rate` the rate in use (R149).
`timer` is the running timer's length in milliseconds: the clear timer in KEYING, the guard time in GUARD, the
holdoff in HOLDOFF. `leadIn` is the number of lead-in bytes read at the key-up, until they are sent; `guard` the guard time read
when KEY dropped for carrier, until CD clears; `onAir` the truck and message whose frame is being sent; `burst` the frames sent in
this burst. `rx` holds the bytes the receiver has gathered, from a start byte on; out of frame there are none (R150). -/
structure Floor where
  settings : ChannelSettings
  rate     : Nat
  cd       : Bool
  clr      : Bool
  tx       : TxState
  timer    : Option Nat
  leadIn   : Option Nat
  guard    : Option Nat
  onAir    : Option (Nat × FloorMsg)
  burst    : Nat
  replies  : List Waiting
  notices  : List Waiting
  overrun  : Table 32 Bool
  timeouts : Nat
  rx       : List Byte
  deriving DecidableEq, Repr

/-! ### Exception list (chapter 9) -/

/-- The exception kinds, in the order of their codes 1 to 19 (§9.7). -/
inductive ExcKind where
  | callLapsed | wrongDoor | earlyUndock | lateDeparture | shortDelivery | mismanifest | duplicateLabel
  | unrouted | tableFull | laneFull | noPlace | taskExpired | lateRecovery | censusMismatch | censusTimeout
  | channelFault | sealAxle | saturatedLabel | listOverflow
  deriving DecidableEq, Repr, Inhabited

/-- The subject of an exception (§9.1). -/
inductive ExcSubject where
  | none
  | door (n : Nat)
  | lane (n : Nat)
  | truck (n : Nat)
  | trailer (fleet : Nat)
  | pallet (id : Nat)
  deriving DecidableEq, Repr, Inhabited

/-- An exception entry (§9.1). -/
structure ExcEntry where
  kind    : ExcKind
  subject : ExcSubject
  count   : Nat
  first   : Nat
  last    : Nat
  mark    : Bool
  detail  : Nat
  deriving DecidableEq, Repr, Inhabited

/-- The exception list, oldest entry first, and its change count (§9.1). -/
structure ExcList where
  entries : List ExcEntry
  changes : Nat
  deriving DecidableEq, Repr, Inhabited

/-! ### Station link (chapter 10) -/

/-- The subjects reports are about (§10.5). -/
inductive Subject where
  | phase
  | door (n : Nat)
  | lane (n : Nat)
  | truck (n : Nat)
  | trailer (fleet : Nat)
  | exceptions
  | census (group : Nat)
  deriving DecidableEq, Repr, Inhabited

/-- The results of a command (§10.7). -/
inductive Result where
  | done | doneClamped | badForm | badValue | notNow | unknown | full | conflict | unconfigured
  deriving DecidableEq, Repr, Inhabited

/-- A reply, less the link status byte, which is filled in when its transmission begins (R174). -/
structure Reply where
  kind   : Byte
  tag    : Byte
  result : Result
  fields : List Byte
  deriving DecidableEq, Repr, Inhabited

/-- The notice that the end of a frame's transmission gives (R179). -/
inductive SentNotice where
  | none
  | departed (fleet : Nat)
  | overrun (truck : Nat)
  deriving DecidableEq, Repr, Inhabited

/-- The station frame being sent, and the notice its end gives. -/
structure Outgoing where
  frame  : Frame
  notice : SentNotice
  deriving DecidableEq, Repr, Inhabited

/-- The station link's state (chapter 10). `rate1` and `rate0` are the straps as last sampled; `rx` holds the bytes the receiver has
gathered, from a start byte on, and out of frame there are none (R171). -/
structure Link where
  rate1     : Bool
  rate0     : Bool
  rx        : List Byte
  receive   : List Frame
  discarded : Bool
  overrun   : Bool
  slot      : Option Reply
  sending   : Option Outgoing
  reports   : List Subject
  deriving DecidableEq, Repr, Inhabited

/-! ### The whole machine -/

/-- The state of the part: the commands and events that wait (first in, first out), and every block's state. -/
structure State where
  pending    : List Instr
  startUp    : StartUp
  clock      : NightClock
  due        : List Due
  routes     : Table 256 RouteEntry
  depots     : Table 127 DepotRec
  pallets    : List PalletRec
  doors      : Table 48 DoorRec
  trailers   : List TrailerRec
  lanes      : Table 96 LaneRec
  census     : Census
  classes    : Table 8 ClassRec
  trucks     : Table 32 TruckRec
  sched      : Scheduler
  floor      : Floor
  exceptions : ExcList
  link       : Link
  deriving DecidableEq, Repr

/-! ### Values after power-on and the reset pin -/

/-- The night clock after reset (R1, R6, R7). -/
def NightClock.reset : NightClock :=
  { second := 0, sub := 0, divisor := Config.defaultDivisor, secondDivisor := Config.defaultDivisor, valid := false,
    topen := 0, ttransfer := 0, tclose := 0, tend := 0, nightValid := false,
    phase := .unconfigured, ending := false, rolledOver := false }

/-- Start-up state after a reset of cause `c` (R182). -/
def StartUp.reset (c : ResetCause) : StartUp :=
  { cause := c, configured := false, survey := none, resetHeld := false }

/-- An invalid route entry (R15). -/
def RouteEntry.reset : RouteEntry := { pattern := 0, mask := 0, depot := 0, valid := false }

/-- A depot record after reset (R20). -/
def DepotRec.reset : DepotRec :=
  { enabled := false, home := none, group := [], priority := false,
    expected := 0, moving := 0, staged := 0, held := 0, loaded := 0, loadedTonight := 0 }

/-- A free plan buffer, with no contents (R45). -/
def Buffer.reset : Buffer := { state := .free, plan := none }

/-- A door record after reset (R45), its sense line at level `line`. -/
def DoorRec.reset (line : Bool) : DoorRec :=
  { enabled := false, polarity := .presentHigh, debounce := 3, callTime := 300, unloadLimit := 2, loadLimit := 2,
    line := line, present := false, count := none, state := .off, called := none, callEnd := none, arrival := none,
    bound := none, queue := [], buffer0 := Buffer.reset, buffer1 := Buffer.reset, recent := none, parity := 0 }

/-- A lane record after reset (R75). -/
def LaneRec.reset : LaneRec :=
  { binding := .none, capacity := 24, high := 0, state := .off, contents := [], reserved := 0, nearlyFull := false,
    holder := none, claim := none, tasksOut := 0, stalled := none, unverified := false, lastCensus := none }

/-- A census group record with no census and no due time (R89). -/
def GroupRec.reset : GroupRec := { stage := .none, lanes := [], nextDue := none, timerEnd := none }

/-- The census settings and groups after reset (R89). -/
def Census.reset : Census := { interval := 3600, groups := 4, timeout := 300, group := Table.fill 4 GroupRec.reset }

/-- An invalid class record (R99). -/
def ClassRec.reset : ClassRec :=
  { rows := 0, hmax := 0, wmax := 0, axleX := 0, kmax := 0, amax := 0, tiers := 0, dlat := none,
    pattern := .fixed, flip := false, valid := false }

/-- A truck record after reset (R121). -/
def TruckRec.reset : TruckRec :=
  { state := .off, freeSince := none, lastLoc := none, run := none, offerEnd := none, task := none }

/-- The dispatch settings' defaults (§7.1). -/
def dispatchDefaults : DispatchSettings :=
  { loadSlots := 4, urgencyLead := 1800, offerTime := 30, unloadLimit := 4, loadLimit := 4, relocLimit := 1,
    laneBase := 180, doorBase := 150, directBase := 240, relocBase := 240, changeover := 60 }

/-- The scheduler after reset (R121). -/
def Scheduler.reset : Scheduler := { freeQueue := [], counter := 0, settings := dispatchDefaults }

/-- The floor channel settings' defaults (§8.1). -/
def channelDefaults : ChannelSettings :=
  { rate := 9600, leadIn := 4, burstLimit := 6, guardTime := 80, clearTimeout := 300 }

/-- The floor channel after reset (R149, R160), the modem's lines at the levels given. -/
def Floor.reset (cd clr : Bool) : Floor :=
  { settings := channelDefaults, rate := 9600, cd := cd, clr := clr, tx := .quiet, timer := none, leadIn := none,
    guard := none, onAir := none, burst := 0, replies := [], notices := [], overrun := Table.fill 32 false, timeouts := 0,
    rx := [] }

/-- The PhaseReport composed after reset: phase UNCONFIGURED, every flag clear, every time 0 (R182, §10.7). -/
def resetReport : Outgoing :=
  { frame := { kind := 0xC0, tag := 0, body := List.replicate 17 0 }, notice := .none }

/-- The station link after reset (R172, R174, R176). The phase subject is marked pending (R182), and the idle
transmitter at once begins its report (R177). -/
def Link.reset (rate1 rate0 : Bool) : Link :=
  { rate1 := rate1, rate0 := rate0, rx := [], receive := [], discarded := false, overrun := false, slot := none,
    sending := some resetReport, reports := [] }

/-- Every block's state after power-on or the reset pin (R182), with the levels the part's inputs stand at.
The line levels are the part's surroundings' own and the queue of waiting commands is the model's: both outlast a reset. DESIGN CHOICE (log entry 1). -/
def State.afterReset (cause : ResetCause) (rate1 rate0 : Bool) (lines : Table 48 Bool) (cd clr : Bool)
    (pending : List Instr) : State :=
  { pending := pending
    startUp := StartUp.reset cause
    clock := NightClock.reset
    due := []
    routes := Table.fill 256 RouteEntry.reset
    depots := Table.fill 127 DepotRec.reset
    pallets := []
    doors := Table.map DoorRec.reset lines
    trailers := []
    lanes := Table.fill 96 LaneRec.reset
    census := Census.reset
    classes := Table.fill 8 ClassRec.reset
    trucks := Table.fill 32 TruckRec.reset
    sched := Scheduler.reset
    floor := Floor.reset cd clr
    exceptions := { entries := [], changes := 0 }
    link := Link.reset rate1 rate0 }

/-- The machine right after power-on. DESIGN CHOICE (log entry 1): both straps, every sense line and both modem
lines stand low, and no command waits. -/
def State.reset : State := State.afterReset .power false false (Table.fill 48 false) false false []

end Sys2Proof.Machine
end

