-- ==== Sys2Proof/Machine/Operands.lean ====
section
/-!
DEFINITION. How values stand on the links: field widths and absent forms (§10.6), the codes of states, kinds and
reasons (§10.7, §9.1, §4.3), and the clamping of settings to their ranges.
-/

namespace Sys2Proof.Machine

/-! ### Field widths and absent forms (§10.6) -/

/-- A field of one byte. -/
def u8 (n : Nat) : List Byte := [BitVec.ofNat 8 n]

/-- A field of two bytes, most significant first. -/
def u16 (n : Nat) : List Byte := [BitVec.ofNat 8 (n / 256), BitVec.ofNat 8 n]

/-- A field of three bytes, most significant first. -/
def u24 (n : Nat) : List Byte := [BitVec.ofNat 8 (n / 65536), BitVec.ofNat 8 (n / 256), BitVec.ofNat 8 n]

/-- A field of four bytes, most significant first. -/
def u32 (n : Nat) : List Byte :=
  [BitVec.ofNat 8 (n / 16777216), BitVec.ofNat 8 (n / 65536), BitVec.ofNat 8 (n / 256), BitVec.ofNat 8 n]

/-- A flag: one byte, 1 when set. -/
def flagByte (b : Bool) : List Byte := u8 b.toNat

/-- A time of day, absent as 0xFFFFFF. -/
def timeField (t : Option Nat) : List Byte := u24 (t.getD 0xFFFFFF)

/-- A fleet number, absent as 0. -/
def fleetField (f : Option Nat) : List Byte := u16 (f.getD 0)

/-- A depot, absent as 0. -/
def depotField (d : Option Nat) : List Byte := u8 (d.getD 0)

/-- A pallet id, absent as 0. -/
def palletField (p : Option Nat) : List Byte := u32 (p.getD 0)

/-- A door, lane or truck, absent as 0xFF. -/
def numberField (n : Option Nat) : List Byte := u8 (n.getD 0xFF)

/-- A location: type and number, absent as 0x0000. -/
def locationField : Option Location → List Byte
  | none => u8 0 ++ u8 0
  | some (.door n) => u8 1 ++ u8 n
  | some (.lane n) => u8 2 ++ u8 n

/-- A value and the width of its range: the nearer end when it lies outside. -/
def clamp (lo hi v : Nat) : Nat := if v < lo then lo else if hi < v then hi else v

/-! ### Codes -/

/-- The phase codes (§10.7). -/
def Phase.code : Phase → Nat
  | .unconfigured => 0 | .idle => 1 | .intake => 2 | .transfer => 3 | .close => 4

/-- The reset causes' codes (R186). -/
def ResetCause.code : ResetCause → Nat
  | .power => 1 | .pin => 2 | .restart => 3

/-- The door state codes (§10.7). -/
def DoorState.code : DoorState → Nat
  | .off => 0 | .free => 1 | .called => 2 | .arrived => 3 | .bound => 4

/-- The lane state codes (§10.7). -/
def LaneState.code : LaneState → Nat
  | .off => 0 | .open_ => 1 | .pending => 2 | .locked => 3

/-- A lane's binding in the form of LaneReport (§10.7). -/
def Binding.code : Binding → Nat
  | .none => 0 | .hold => 0x80 | .depot d => d

/-- The buffer state codes (§10.7). -/
def BufferState.code : BufferState → Nat
  | .free => 0 | .live => 1 | .frozen => 2

/-- The census stage codes (§10.7). -/
def Stage.code : Stage → Nat
  | .none => 0 | .pending => 1 | .locked => 2

/-- The role codes (§10.7). -/
def Role.code : Role → Nat
  | .swap => 1 | .inbound => 2 | .outbound => 3

/-- The role a code names. -/
def Role.ofCode : Nat → Option Role
  | 1 => some .swap | 2 => some .inbound | 3 => some .outbound | _ => none

/-- The polarity codes (§10.7). -/
def Polarity.code : Polarity → Nat
  | .presentHigh => 0 | .presentLow => 1

/-- The polarity a code names. -/
def Polarity.ofCode : Nat → Option Polarity
  | 0 => some .presentHigh | 1 => some .presentLow | _ => none

/-- The side pattern codes (§10.7). -/
def SidePattern.code : SidePattern → Nat
  | .fixed => 0 | .alternate => 1 | .paired => 2

/-- The side pattern a code names. -/
def SidePattern.ofCode : Nat → Option SidePattern
  | 0 => some .fixed | 1 => some .alternate | 2 => some .paired | _ => none

/-- The drop phase codes (§10.7). -/
def DropPhase.code : DropPhase → Nat
  | .far => 0 | .near => 1

/-- The trailer state codes (§4.3). -/
def TrailerState.code : TrailerState → Nat
  | .announced => 0 | .yard => 1 | .called => 2 | .unloading => 3 | .ready => 4
  | .loading => 5 | .closing => 6 | .sealed => 7 | .emptied => 8 | .departed => 9

/-- The pallet state numbers (R137, §9.7). -/
def PalletState.code : PalletState → Nat
  | .expected => 0 | .moving => 1 | .staged => 2 | .held => 3 | .loaded => 4 | .missing => 5

/-- The service class codes of the label block (§10.7). -/
def Service.code : Service → Nat
  | .standard => 1 | .premium => 2

/-- The service class a code names. -/
def Service.ofCode : Nat → Option Service
  | 1 => some .standard | 2 => some .premium | _ => none

/-- The side codes (§10.7). -/
def Side.code : Side → Nat
  | .a => 1 | .b => 2

/-- The run kind codes (§10.7). -/
def RunKind.code : RunKind → Nat
  | .unload => 1 | .load => 2 | .reloc => 3

/-- The truck state codes (§10.7). -/
def TruckState.code : TruckState → Nat
  | .off => 0 | .free => 1 | .offered => 2 | .onRun => 3 | .onBreak => 4 | .absent => 5

/-- The codes of the Refused reasons: from 1, in the order R155 lists them (§10.7). -/
def Reason.code : Reason → Nat
  | .notOnRun => 1 | .taskOpen => 2 | .unknown => 3 | .tableFull => 4 | .duplicateLabel => 5 | .noPlace => 6
  | .wrongPallet => 7 | .drop => 8 | .overWeight => 9 | .height => 10 | .noRoom => 11 | .hazard => 12
  | .axle => 13 | .lateral => 14

/-- The exception kind codes (§9.7). -/
def ExcKind.code : ExcKind → Nat
  | .callLapsed => 1 | .wrongDoor => 2 | .earlyUndock => 3 | .lateDeparture => 4 | .shortDelivery => 5
  | .mismanifest => 6 | .duplicateLabel => 7 | .unrouted => 8 | .tableFull => 9 | .laneFull => 10
  | .noPlace => 11 | .taskExpired => 12 | .lateRecovery => 13 | .censusMismatch => 14 | .censusTimeout => 15
  | .channelFault => 16 | .sealAxle => 17 | .saturatedLabel => 18 | .listOverflow => 19

/-- The subject type codes (§9.1). -/
def ExcSubject.typeCode : ExcSubject → Nat
  | .none => 0 | .door _ => 1 | .lane _ => 2 | .truck _ => 3 | .trailer _ => 4 | .pallet _ => 5

/-- The subject number; 0 for NONE (§9.1). -/
def ExcSubject.number : ExcSubject → Nat
  | .none => 0 | .door n => n | .lane n => n | .truck n => n | .trailer n => n | .pallet n => n

/-- The result codes (§10.7). -/
def Result.code : Result → Nat
  | .done => 0x00 | .doneClamped => 0x01 | .badForm => 0x81 | .badValue => 0x82 | .notNow => 0x83
  | .unknown => 0x84 | .full => 0x85 | .conflict => 0x86 | .unconfigured => 0x87

/-- The value of a failed set of seal conditions (R119). -/
def SealResult.code (r : SealResult) : Nat := r.axle.toNat + 2 * r.kingpin.toNat + 4 * r.lateral.toNat

/-- The row, side and tier a target gives; the side of a lane target is 0 (§10.7).
The 0 of its row and tier: DESIGN CHOICE (log entry 11). -/
def Target.rowSideTier : Target → List Byte
  | .lane _ => u8 0 ++ u8 0 ++ u8 0
  | .door _ row side tier => u8 row ++ u8 side.code ++ u8 tier

/-- A target as it stands in a frame: its location, then row, side and tier (§10.7).
The 0 of row, side and tier without a target: DESIGN CHOICE (log entry 11). -/
def targetField : Option Target → List Byte
  | none => locationField none ++ u8 0 ++ u8 0 ++ u8 0
  | some t => locationField (some t.location) ++ t.rowSideTier

end Sys2Proof.Machine
end

