-- ==== Sys2Proof/Decode.lean ====
section
/-!
DEFINITION. How commands are spelled on the two links: the CRC (R150, R171), the gathering of a frame from its bytes
(R150, R171), the command a complete frame carries (R173, §10.4, §10.6, §10.7), and the frame of a command.

The table of this part gives no row any bits, so `decodeTableWord` spells no command: commands are frames, messages and
events, and what spells them is `Frame.command`.
-/

namespace Sys2Proof

/-! ### Numbers on the line -/

/-- The number that bytes spell, most significant first (§10.6). -/
def beNat (bs : List Byte) : Nat := bs.foldl (fun n b => n * 256 + b.toNat) 0

/-- A field of `w` bytes, most significant first (§10.6). -/
def beBytes : (w n : Nat) → List Byte
  | 0, _ => []
  | w + 1, n => BitVec.ofNat 8 (n / 256 ^ w) :: beBytes w n

/-- The fields that bytes carry, one for each width given, when they fill the bytes exactly. -/
def fields : (widths : List Nat) → List Byte → Option (List Nat)
  | [], bs => if bs.isEmpty then some [] else none
  | w :: ws, bs =>
    if bs.length < w then none else (fields ws (bs.drop w)).map (fun ns => beNat (bs.take w) :: ns)

/-- The bytes of fields, each a width and a number. -/
def emit (fs : List (Nat × Nat)) : List Byte := fs.flatMap (fun f => beBytes f.1 f.2)

/-- A flag as a field. -/
def flagNat (b : Bool) : Nat := b.toNat

/-- A field that may be absent, whose absent form is `x`. -/
def absentAs (x : Nat) (n : Nat) : Option Nat := if n = x then none else some n

/-! ### The CRC (R150, R171) -/

/-- One bit of the CRC: generator x^16 + x^12 + x^5 + 1, most significant bit first. -/
def crcBit (crc : BitVec 16) (bit : Bool) : BitVec 16 :=
  if (crc.getLsbD 15).xor bit then (crc <<< 1) ^^^ 0x1021#16 else crc <<< 1

/-- One byte of the CRC, most significant bit first. -/
def crcByte (crc : BitVec 16) (b : Byte) : BitVec 16 :=
  [7, 6, 5, 4, 3, 2, 1, 0].foldl (fun c i => crcBit c (b.getLsbD i)) crc

/-- The CRC of a sequence of bytes: initial value 0xFFFF, no final inversion (R150, R171). -/
def crc16 (bs : List Byte) : BitVec 16 := bs.foldl crcByte 0xFFFF#16

/-! ### Station frames on the line (R171, §10.7) -/

/-- The bytes the CRC covers: length, kind, tag and body. -/
def Frame.covered (f : Frame) : List Byte := beBytes 2 f.body.length ++ f.kind :: f.tag :: f.body

/-- A frame's bytes on the line (§10.7). -/
def Frame.bytes (f : Frame) : List Byte := 0xA5#8 :: (f.covered ++ beBytes 2 (crc16 f.covered).toNat)

/-- What bytes gathered from a start byte on make (R171). -/
inductive Gathered where
  /-- A complete frame: every byte is there and the CRC checks. -/
  | frame (f : Frame)
  /-- The length exceeds 1020. -/
  | overLong
  /-- Every byte is there and the CRC does not check. -/
  | badCrc
  /-- The start byte is not there, or bytes are missing, or bytes are left over. -/
  | other
  deriving DecidableEq, Repr

/-- Gather a station frame from its bytes, the start byte among them (R171). -/
def gather : List Byte → Gathered
  | start :: n1 :: n0 :: rest =>
    let n := beNat [n1, n0]
    if start ≠ 0xA5#8 then .other
    else if Config.maxBody < n then .overLong
    else
      match rest with
      | kind :: tag :: tail =>
        if tail.length = n + 2 then
          let f : Frame := { kind := kind, tag := tag, body := tail.take n }
          if beNat (tail.drop n) = (crc16 f.covered).toNat then .frame f else .badCrc
        else .other
      | _ => .other
  | _ => .other

/-! ### Labels and manifest entries (§10.7) -/

/-- The label fields of a label block, from the numbers after its pallet id: route code, weight, height, top-load rating,
hazard group and the class byte (§10.7).
Bits 2 to 6 of the class byte are not looked at: DESIGN CHOICE (log entry 11). -/
def labelOf (route weight height topLoad hazard mark : Nat) : Label :=
  { route := BitVec.ofNat 24 route, weight := weight, height := height, topLoad := topLoad, hazard := hazard,
    cls := mark % 4, hold := mark.testBit 7 }

/-- The last byte of a label block: the class code in bits 0 and 1, hold-on-arrival in bit 7 (§10.7). -/
def Label.mark (l : Label) : Nat := l.cls + 128 * flagNat l.hold

/-- The fields of a label block with the pallet id given. -/
def Label.block (id : Nat) (l : Label) : List (Nat × Nat) :=
  [(4, id), (3, l.route.toNat), (2, l.weight), (1, l.height), (2, l.topLoad), (1, l.hazard), (1, l.mark)]

/-- The widths of a label block. -/
def labelWidths : List Nat := [4, 3, 2, 1, 2, 1, 1]

/-- A label block from its bytes (§10.7). -/
def entryOf (bs : List Byte) : Option ManifestEntry :=
  match fields labelWidths bs with
  | some [id, route, weight, height, topLoad, hazard, mark] =>
    some { id := id, label := labelOf route weight height topLoad hazard mark }
  | _ => none

/-- The whole blocks of `w` bytes that bytes hold, at most `fuel` of them, each read by `f`. -/
def blocks (w : Nat) (f : List Byte → Option α) : (fuel : Nat) → List Byte → List α
  | 0, _ => []
  | fuel + 1, bs =>
    if bs.length < w then []
    else
      match f (bs.take w) with
      | some a => a :: blocks w f fuel (bs.drop w)
      | none => []

/-! ### The command a frame carries (R173, §10.4) -/

/-- The dispatch settings from their fields, in the order of §7.1. -/
def dispatchOf : List Nat → Option DispatchSettings
  | [k, urgency, offer, ul, ll, rl, lane, door, direct, reloc, changeover] =>
    some { loadSlots := k, urgencyLead := urgency, offerTime := offer, unloadLimit := ul, loadLimit := ll, relocLimit := rl,
           laneBase := lane, doorBase := door, directBase := direct, relocBase := reloc, changeover := changeover }
  | _ => none

/-- The widths of the dispatch settings (§10.6). -/
def dispatchWidths : List Nat := [1, 2, 2, 1, 1, 1, 2, 2, 2, 2, 2]

/-- The dispatch settings as fields. -/
def dispatchFields (d : DispatchSettings) : List (Nat × Nat) :=
  [(1, d.loadSlots), (2, d.urgencyLead), (2, d.offerTime), (1, d.unloadLimit), (1, d.loadLimit), (1, d.relocLimit),
   (2, d.laneBase), (2, d.doorBase), (2, d.directBase), (2, d.relocBase), (2, d.changeover)]

/-- The channel settings as fields: rate, lead-in, burst limit, guard time and clear timeout (§8.1). -/
def channelFields (c : ChannelSettings) : List (Nat × Nat) :=
  [(2, c.rate), (1, c.leadIn), (1, c.burstLimit), (2, c.guardTime), (2, c.clearTimeout)]

/-- The depot fields from the bytes after the depot code: enabled flag, home door, the lane count and that many lanes, and
the priority lane flag (R20). -/
def depotOf : List Byte → Option DepotFields
  | enabled :: home :: count :: rest =>
    if rest.length = count.toNat + 1 then
      some { enabled := enabled != 0#8, home := absentAs 0xFF home.toNat,
             group := (rest.take count.toNat).map BitVec.toNat, priority := rest.getLastD 0#8 != 0#8 }
    else none
  | _ => none

/-- The depot fields as they stand in SetDepot. -/
def depotFields (d : DepotFields) : List (Nat × Nat) :=
  [(1, flagNat d.enabled), (1, d.home.getD 0xFF), (1, d.group.length)] ++ d.group.map (fun l => (1, l)) ++
    [(1, flagNat d.priority)]

/-- The arrival window from its two times; it is absent when both carry the absent form. -/
def windowOf (start end_ : Nat) : Option (Nat × Nat) :=
  if start = 0xFFFFFF ∧ end_ = 0xFFFFFF then none else some (start, end_)

/-- The changes of an AmendTrailer from its presence byte and fields (§10.7).
Bits 4 to 7 of the presence byte are not looked at: DESIGN CHOICE (log entry 11). -/
def amendOf (presence tdep closing switch far : Nat) : AmendFields :=
  { tdep := if presence.testBit 0 then some tdep else none
    closingLead := if presence.testBit 1 then some closing else none
    switchLead := if presence.testBit 2 then some switch else none
    far := if presence.testBit 3 then some far else none }

/-- The presence byte of an AmendTrailer (§10.7). -/
def AmendFields.presence (a : AmendFields) : Nat :=
  flagNat a.tdep.isSome + 2 * flagNat a.closingLead.isSome + 4 * flagNat a.switchLead.isSome + 8 * flagNat a.far.isSome

/-- The commands that set the clock, the night and configuration, by kind code (§10.4).
Widths and forms that no rule lays out, such as the one byte of a rear axle group position: DESIGN CHOICE (log entry 11). -/
def configCommand (kind : Nat) (tag : Byte) (body : List Byte) : Option Instr :=
  match kind with
  | 0x01 => if body.isEmpty then some (.identify tag) else none
  | 0x02 => match fields [3] body with
    | some [t] => some (.setClock tag t)
    | _ => none
  | 0x03 => match fields [3, 3, 3, 3] body with
    | some [o, t, c, e] => some (.setNight tag o t c e)
    | _ => none
  | 0x04 => match fields [4] body with
    | some [d] => some (.setTiming tag d)
    | _ => none
  | 0x05 => match fields dispatchWidths body with
    | some ns => (dispatchOf ns).map (.setDispatch tag)
    | _ => none
  | 0x06 => match fields [2, 1, 1, 2, 2] body with
    | some [r, l, b, g, c] =>
      some (.setChannel tag { rate := r, leadIn := l, burstLimit := b, guardTime := g, clearTimeout := c })
    | _ => none
  | 0x07 => match fields [2, 1, 2] body with
    | some [p, g, t] => some (.setCensus tag p g t)
    | _ => none
  | 0x08 => match fields [1, 1, 1, 2, 1, 2, 2, 1, 2, 1, 1] body with
    | some [n, r, h, w, x, k, a, t, dlat, p, f] =>
      some (.setClass tag n { rows := r, hmax := h, wmax := w, axleX := x, kmax := k, amax := a, tiers := t,
                              dlat := absentAs 0xFFFF dlat, pattern := p, flip := f != 0 })
    | _ => none
  | 0x09 => match fields [1, 1, 1, 2, 2, 1, 1] body with
    | some [n, e, p, d, c, u, l] =>
      some (.setDoor tag n { enabled := e != 0, polarity := p, debounce := d, callTime := c, unloadLimit := u,
                             loadLimit := l })
    | _ => none
  | 0x0A => match fields [1, 1, 1, 1] body with
    | some [n, b, c, h] => some (.setLane tag n b c h)
    | _ => none
  | 0x0B => match body with
    | d :: rest => (depotOf rest).map (.setDepot tag d.toNat)
    | [] => none
  | 0x0C => match fields [2, 3, 3, 1] body with
    | some [n, p, m, d] => some (.setRoute tag n p m d)
    | _ => none
  | 0x0D => match body with
    | [1#8] => some (.clearRouteAll tag)
    | 0#8 :: rest => match fields [2] rest with
      | some [n] => some (.clearRoute tag n)
      | _ => none
    | _ => none
  | 0x0E => if body.isEmpty then some (.start tag) else none
  | 0x0F => if body.isEmpty then some (.restart tag) else none
  | 0x10 => if body.isEmpty then some (.advancePhase tag) else none
  | _ => none

/-- The commands about trailers and manifests, by kind code (§10.4). -/
def trailerCommand (kind : Nat) (tag : Byte) (body : List Byte) : Option Instr :=
  match kind with
  | 0x11 => match fields [2, 1, 1, 1, 1, 1, 3, 3, 3, 2, 2] body with
    | some [f, r, o, n, far, c, ws, we, td, cl, sl] =>
      some (.announce tag { fleet := f, role := r, origin := o, near := n, far := absentAs 0 far, cls := c,
                            window := windowOf ws we, tdep := td, closingLead := cl, switchLead := sl })
    | _ => none
  | 0x12 => match body with
    | f1 :: f0 :: count :: rest =>
      some (.manifest tag (beNat [f1, f0]) count.toNat (blocks 14 entryOf rest.length rest) (rest.length % 14))
    | _ => none
  | 0x13 => match fields [2] body with
    | some [f] => some (.gateArrival tag f)
    | _ => none
  | 0x14 => match fields [2, 1, 3, 2, 2, 1] body with
    | some [f, p, td, cl, sl, far] => some (.amendTrailer tag f (amendOf p td cl sl far))
    | _ => none
  | 0x15 => match fields [1, 2] body with
    | some [d, f] => some (.atDoor tag d f)
    | _ => none
  | 0x16 => match fields [2] body with
    | some [f] => some (.endUnload tag f)
    | _ => none
  | 0x17 => match fields [2] body with
    | some [f] => some (.switchDrop tag f)
    | _ => none
  | 0x18 => match fields [2] body with
    | some [f] => some (.closeTrailer tag f)
    | _ => none
  | 0x19 => match fields [2] body with
    | some [f] => some (.cancelTrailer tag f)
    | _ => none
  | _ => none

/-- The commands about pallets, lanes and the census, by kind code (§10.4). -/
def palletCommand (kind : Nat) (tag : Byte) (body : List Byte) : Option Instr :=
  match kind with
  | 0x20 => match fields [4] body with
    | some [p] => some (if p = 0 then .queryPalletSummary tag else .queryPallet tag p)
    | _ => none
  | 0x21 => match fields [4] body with
    | some [p] => some (.holdOnArrival tag p)
    | _ => none
  | 0x22 => match fields [4] body with
    | some [p] => some (.releaseHeld tag p none)
    | _ => match fields [4, 1] body with
      | some [p, d] => some (.releaseHeld tag p (some d))
      | _ => none
  | 0x28 => match fields [1] body with
    | some [l] => some (if l = 255 then .queryCensusSummary tag else .queryLane tag l)
    | _ => none
  | 0x29 => match body with
    | [0#8, l] => some (.censusNowLane tag l.toNat)
    | [1#8, g] => some (.censusNowGroup tag g.toNat)
    | _ => none
  | 0x2A => match body with
    | l :: count :: rest =>
      some (.censusResult tag l.toNat count.toNat (blocks 4 (fun bs => some (beNat bs)) rest.length rest) (rest.length % 4))
    | _ => none
  | _ => none

/-- The remaining queries and the exception commands, by kind code (§10.4). -/
def queryCommand (kind : Nat) (tag : Byte) (body : List Byte) : Option Instr :=
  match kind with
  | 0x30 => match fields [1] body with
    | some [d] => some (.queryDoor tag d)
    | _ => none
  | 0x31 => match body with
    | [d, sel] => some (.queryPlan tag d.toNat sel.toNat none)
    | [d, sel, row] => some (.queryPlan tag d.toNat sel.toNat (some row.toNat))
    | _ => none
  | 0x32 => match fields [1] body with
    | some [t] => some (if t = 255 then .querySchedulerSummary tag else .queryTruck tag t)
    | _ => none
  | 0x33 => match fields [2] body with
    | some [f] => some (if f = 0 then .queryTrailerSummary tag else .queryTrailer tag f)
    | _ => none
  | 0x34 => match fields [1] body with
    | some [d] => some (.queryDepot tag d)
    | _ => none
  | 0x38 => match fields [1, 1] body with
    | some [p, m] => some (.readExceptions tag p m)
    | _ => none
  | 0x39 => match body with
    | [1#8] => some (.clearExceptionAll tag)
    | 0#8 :: rest => match fields [1, 1, 4, 1] rest with
      | some [k, t, n, g] => some (.clearException tag k t n g)
      | _ => none
    | _ => none
  | _ => none

/-- Whether a kind is in the command catalogue (§10.4). -/
def inCatalogue (kind : Nat) : Bool :=
  decide (1 ≤ kind ∧ kind ≤ 0x19) || decide (0x20 ≤ kind ∧ kind ≤ 0x22) || decide (0x28 ≤ kind ∧ kind ≤ 0x2A) ||
    decide (0x30 ≤ kind ∧ kind ≤ 0x34) || decide (0x38 ≤ kind ∧ kind ≤ 0x39)

/-- The command a complete frame carries. A kind that is not in the catalogue, and a body that does not have the form its
kind requires, make an UNKNOWN_COMMAND (R173). -/
def Frame.command (f : Frame) : Instr :=
  let k := f.kind.toNat
  ((((configCommand k f.tag f.body).or (trailerCommand k f.tag f.body)).or (palletCommand k f.tag f.body)).or
    (queryCommand k f.tag f.body)).getD (.unknownCommand f)

/-! ### The frame of a command -/

/-- A frame from its kind code, tag and fields.
Widths and forms that no rule lays out: DESIGN CHOICE (log entry 11). -/
def frameOf (kind : Nat) (tag : Byte) (fs : List (Nat × Nat)) : Frame :=
  { kind := BitVec.ofNat 8 kind, tag := tag, body := emit fs }

/-- The frame that carries a command of the depot computer; the other rows are not frames. -/
def Instr.frame? : Instr → Option Frame
  | .identify tag => some (frameOf 0x01 tag [])
  | .setClock tag t => some (frameOf 0x02 tag [(3, t)])
  | .setNight tag o t c e => some (frameOf 0x03 tag [(3, o), (3, t), (3, c), (3, e)])
  | .setTiming tag d => some (frameOf 0x04 tag [(4, d)])
  | .setDispatch tag d => some (frameOf 0x05 tag (dispatchFields d))
  | .setChannel tag c => some (frameOf 0x06 tag (channelFields c))
  | .setCensus tag p g t => some (frameOf 0x07 tag [(2, p), (1, g), (2, t)])
  | .setClass tag n c => some (frameOf 0x08 tag
      [(1, n), (1, c.rows), (1, c.hmax), (2, c.wmax), (1, c.axleX), (2, c.kmax), (2, c.amax), (1, c.tiers),
       (2, c.dlat.getD 0xFFFF), (1, c.pattern), (1, flagNat c.flip)])
  | .setDoor tag n d => some (frameOf 0x09 tag
      [(1, n), (1, flagNat d.enabled), (1, d.polarity), (2, d.debounce), (2, d.callTime), (1, d.unloadLimit),
       (1, d.loadLimit)])
  | .setLane tag n b c h => some (frameOf 0x0A tag [(1, n), (1, b), (1, c), (1, h)])
  | .setDepot tag n d => some (frameOf 0x0B tag ((1, n) :: depotFields d))
  | .setRoute tag n p m d => some (frameOf 0x0C tag [(2, n), (3, p), (3, m), (1, d)])
  | .clearRoute tag n => some (frameOf 0x0D tag [(1, 0), (2, n)])
  | .clearRouteAll tag => some (frameOf 0x0D tag [(1, 1)])
  | .start tag => some (frameOf 0x0E tag [])
  | .restart tag => some (frameOf 0x0F tag [])
  | .advancePhase tag => some (frameOf 0x10 tag [])
  | .announce tag a => some (frameOf 0x11 tag
      [(2, a.fleet), (1, a.role), (1, a.origin), (1, a.near), (1, a.far.getD 0), (1, a.cls),
       (3, (a.window.map Prod.fst).getD 0xFFFFFF), (3, (a.window.map Prod.snd).getD 0xFFFFFF), (3, a.tdep),
       (2, a.closingLead), (2, a.switchLead)])
  | .manifest tag f count entries excess => some (frameOf 0x12 tag
      ([(2, f), (1, count)] ++ entries.flatMap (fun e => e.label.block e.id) ++ List.replicate excess (1, 0)))
  | .gateArrival tag f => some (frameOf 0x13 tag [(2, f)])
  | .amendTrailer tag f a => some (frameOf 0x14 tag
      [(2, f), (1, a.presence), (3, a.tdep.getD 0), (2, a.closingLead.getD 0), (2, a.switchLead.getD 0),
       (1, a.far.getD 0)])
  | .atDoor tag d f => some (frameOf 0x15 tag [(1, d), (2, f)])
  | .endUnload tag f => some (frameOf 0x16 tag [(2, f)])
  | .switchDrop tag f => some (frameOf 0x17 tag [(2, f)])
  | .closeTrailer tag f => some (frameOf 0x18 tag [(2, f)])
  | .cancelTrailer tag f => some (frameOf 0x19 tag [(2, f)])
  | .queryPallet tag p => some (frameOf 0x20 tag [(4, p)])
  | .queryPalletSummary tag => some (frameOf 0x20 tag [(4, 0)])
  | .holdOnArrival tag p => some (frameOf 0x21 tag [(4, p)])
  | .releaseHeld tag p dest => some (frameOf 0x22 tag ((4, p) :: (dest.map (fun d => (1, d))).toList))
  | .queryLane tag l => some (frameOf 0x28 tag [(1, l)])
  | .queryCensusSummary tag => some (frameOf 0x28 tag [(1, 255)])
  | .censusNowLane tag l => some (frameOf 0x29 tag [(1, 0), (1, l)])
  | .censusNowGroup tag g => some (frameOf 0x29 tag [(1, 1), (1, g)])
  | .censusResult tag l count pallets excess => some (frameOf 0x2A tag
      ([(1, l), (1, count)] ++ pallets.map (fun p => (4, p)) ++ List.replicate excess (1, 0)))
  | .queryDoor tag d => some (frameOf 0x30 tag [(1, d)])
  | .queryPlan tag d sel row => some (frameOf 0x31 tag ([(1, d), (1, sel)] ++ (row.map (fun r => (1, r))).toList))
  | .queryTruck tag t => some (frameOf 0x32 tag [(1, t)])
  | .querySchedulerSummary tag => some (frameOf 0x32 tag [(1, 255)])
  | .queryTrailer tag f => some (frameOf 0x33 tag [(2, f)])
  | .queryTrailerSummary tag => some (frameOf 0x33 tag [(2, 0)])
  | .queryDepot tag d => some (frameOf 0x34 tag [(1, d)])
  | .readExceptions tag p m => some (frameOf 0x38 tag [(1, p), (1, m)])
  | .clearException tag k t n g => some (frameOf 0x39 tag [(1, 0), (1, k), (1, t), (4, n), (1, g)])
  | .clearExceptionAll tag => some (frameOf 0x39 tag [(1, 1)])
  | .unknownCommand f => some f
  | .powerOn .. => none
  | .resetPinRelease .. => none
  | .tick => none
  | .phaseTimeReached _ => none
  | .senseLineChange .. => none
  | .lineEvent _ => none
  | .callTimerEnd _ => none
  | .windowStartReached _ => none
  | .closingTimeReached _ => none
  | .switchTimeReached _ => none
  | .tdepReached _ => none
  | .censusDueTime _ => none
  | .censusTimeout _ => none
  | .offerTimerEnd _ => none
  | .taskDeadline _ => none
  | .logon _ => none
  | .logoff _ => none
  | .takeBreak _ => none
  | .resume _ => none
  | .accept _ => none
  | .decline _ => none
  | .take .. => none
  | .drop .. => none
  | .runEnd _ => none
  | .emptyTrailer _ => none
  | .floorFrameDiscarded _ => none
  | .floorByteGapTimeout => none
  | .clrAsserted => none
  | .cdAsserted => none
  | .cdClears => none
  | .clearTimerExpiry => none
  | .holdoffEnd => none
  | .guardTimeEnd => none
  | .leadInSent => none
  | .floorFrameSent => none
  | .stationFrameComplete _ => none
  | .frameDiscarded _ => none
  | .stationByteGapTimeout _ => none
  | .stationFrameSent => none
  | .surveyEnd => none
  | .resetPinAssert => none

/-! ### Floor frames (R150, §8.2, §8.5) -/

/-- The bytes a floor frame's CRC covers: address, kind, length and body. -/
def floorCovered (address kind : Byte) (body : List Byte) : List Byte :=
  address :: kind :: BitVec.ofNat 8 body.length :: body

/-- A floor frame's bytes on the line (§8.2). -/
def floorBytes (address kind : Byte) (body : List Byte) : List Byte :=
  0xC3#8 :: (floorCovered address kind body ++ beBytes 2 (crc16 (floorCovered address kind body)).toNat)

/-- A location as it stands in a Drop: a door 0 to 47 or a lane 0 to 95; no other names a location (§8.5). -/
def locationOf (type number : Nat) : Option Location :=
  match type with
  | 1 => if number < 48 then some (.door number) else none
  | 2 => if number < 96 then some (.lane number) else none
  | _ => none

/-- The message of a floor frame that passes every check of R150, from its address, kind and body (§8.5). -/
def floorMessage (truck kind : Nat) (body : List Byte) : Option Instr :=
  match kind with
  | 0x01 => if body.isEmpty then some (.logon truck) else none
  | 0x02 => if body.isEmpty then some (.logoff truck) else none
  | 0x03 => if body.isEmpty then some (.takeBreak truck) else none
  | 0x04 => if body.isEmpty then some (.resume truck) else none
  | 0x05 => if body.isEmpty then some (.accept truck) else none
  | 0x06 => if body.isEmpty then some (.decline truck) else none
  | 0x07 => match fields [4] body with
    | some [p] => some (.take truck p none)
    | _ => (entryOf body).map (fun e => .take truck e.id (some e.label))
  | 0x08 => match fields [4, 1, 1] body with
    | some [p, t, n] => (locationOf t n).map (.drop truck p)
    | _ => none
  | 0x09 => if body.isEmpty then some (.runEnd truck) else none
  | 0x0A => if body.isEmpty then some (.emptyTrailer truck) else none
  | _ => none

/-- The message that a floor frame's bytes carry, from the start byte on; none for a frame that is discarded (R150). -/
def floorReceive : List Byte → Option Instr
  | start :: address :: kind :: n :: rest =>
    if start = 0xC3#8 ∧ address.toNat ≤ 31 ∧ n.toNat ≤ 64 ∧ rest.length = n.toNat + 2 ∧
        beNat (rest.drop n.toNat) = (crc16 (floorCovered address kind (rest.take n.toNat))).toNat then
      floorMessage address.toNat kind.toNat (rest.take n.toNat)
    else none
  | _ => none

/-! ### Words of the table -/

/-- The command that a word spells by the table's bits: none, since the table gives no row any bits.
DESIGN CHOICE (log entry 24). -/
def decodeTableWord (_nbits _w : Nat) : Option Instr := none

end Sys2Proof
end

