-- ==== Sys2Proof/Machine/Flags.lean ====
section
/-!
DEFINITION. The flag bytes of the links: the link status byte (R174), the flags of Identify (R186) and of the
reports (§10.7).
-/

namespace Sys2Proof.Machine

/-- A byte of flags, bit 0 first. -/
def flagBits (bits : List Bool) : Nat := bits.foldr (fun b n => b.toNat + 2 * n) 0

/-- The link status byte: bit 0 FRAME_DISCARDED, bit 1 OVERRUN (R174). -/
def Link.statusByte (l : Link) : Byte := BitVec.ofNat 8 (flagBits [l.discarded, l.overrun])

/-- The flags as the beginning of a reply's transmission leaves them: each flag carried is cleared, but OVERRUN
stays set while the receive queue holds 32 frames (R174).
An OVERRUN that stayed set so is cleared by the next reply that begins with fewer than 32 frames waiting, not by the queue's falling
below 32: DESIGN CHOICE (log entry 28). -/
def Link.clearCarried (l : Link) : Link :=
  { l with discarded := false, overrun := l.overrun && decide (Config.maxFrames ≤ l.receive.length) }

/-- The flags byte of Identify (R186). -/
def State.identifyFlags (s : State) : Nat :=
  flagBits [s.startUp.configured, s.clock.rolledOver, s.startUp.survey.isSome, s.clock.ending]

/-- The flags byte of PhaseReport (§10.7). -/
def NightClock.reportFlags (c : NightClock) : Nat := flagBits [c.ending, c.rolledOver, c.valid, c.nightValid]

/-- Whether a lane has the discipline FIFO, which follows from its binding (§5.1). -/
def LaneRec.fifo (l : LaneRec) : Bool :=
  match l.binding with
  | .depot _ => true
  | _ => false

/-- The flags byte of LaneReport (§10.7). -/
def LaneRec.reportFlags (l : LaneRec) : Nat := flagBits [l.nearlyFull, l.unverified, l.fifo]

/-- The buffers byte of DoorReport (§10.7). -/
def DoorRec.bufferByte (d : DoorRec) : Nat :=
  d.buffer0.state.code + 4 * d.buffer1.state.code + (if d.recent = some 1 then 16 else 0)

/-- The marks byte of TruckReport (§10.7).
The 0 without a run: DESIGN CHOICE (log entry 11). -/
def Run.marks (r : Option Run) : Nat :=
  match r with
  | none => 0
  | some r => flagBits [r.closing, r.breakMark]

/-- The flags byte of TrailerReport (§10.7). -/
def TrailerRec.reportFlags (t : TrailerRec) : Nat := flagBits [t.late, t.early]

end Sys2Proof.Machine
end

