-- ==== Sys2Proof/Machine/Ops.lean ====
section
/-!
DEFINITION. The named operations every block's rules are written with: reading and changing one record, the depot
clock and night offsets (R4, R5), marking a subject pending (R176), and raising an exception (R162, R163).
-/

namespace Sys2Proof.Machine

/-! ### Collections kept in ascending number -/

/-- Add a record to a list kept in ascending key. -/
def insertAsc (key : α → Nat) (a : α) : List α → List α
  | [] => [a]
  | b :: bs => if key a < key b then a :: b :: bs else b :: insertAsc key a bs

/-! ### Records -/

/-- Door record `d`. -/
def State.door (s : State) (d : Nat) : DoorRec := s.doors.get d

/-- The state with door record `d` changed. -/
def State.modDoor (s : State) (d : Nat) (f : DoorRec → DoorRec) : State :=
  { s with doors := s.doors.set d (f (s.door d)) }

/-- Lane record `l`. -/
def State.lane (s : State) (l : Nat) : LaneRec := s.lanes.get l

/-- The state with lane record `l` changed. -/
def State.modLane (s : State) (l : Nat) (f : LaneRec → LaneRec) : State :=
  { s with lanes := s.lanes.set l (f (s.lane l)) }

/-- Truck record `t`. -/
def State.truck (s : State) (t : Nat) : TruckRec := s.trucks.get t

/-- The state with truck record `t` changed. -/
def State.modTruck (s : State) (t : Nat) (f : TruckRec → TruckRec) : State :=
  { s with trucks := s.trucks.set t (f (s.truck t)) }

/-- The record of depot `d`; depot 0 means "no destination" and has none. -/
def State.depot (s : State) (d : Nat) : DepotRec := if d = 0 then DepotRec.reset else s.depots.get (d - 1)

/-- The state with the record of depot `d` changed. -/
def State.modDepot (s : State) (d : Nat) (f : DepotRec → DepotRec) : State :=
  if d = 0 then s else { s with depots := s.depots.set (d - 1) (f (s.depot d)) }

/-- Census group record `g`. -/
def State.group (s : State) (g : Nat) : GroupRec := s.census.group.get g

/-- The state with census group record `g` changed. -/
def State.modGroup (s : State) (g : Nat) (f : GroupRec → GroupRec) : State :=
  { s with census := { s.census with group := s.census.group.set g (f (s.group g)) } }

/-- The record of pallet `id`, if the table holds one. -/
def State.pallet? (s : State) (id : Nat) : Option PalletRec := s.pallets.find? (fun p => p.id == id)

/-- The state with the record of pallet `id`, if any, changed. -/
def State.modPallet (s : State) (id : Nat) (f : PalletRec → PalletRec) : State :=
  { s with pallets := s.pallets.map (fun p => if p.id == id then f p else p) }

/-- The record of trailer `fleet`, if the pool holds one. -/
def State.trailer? (s : State) (fleet : Nat) : Option TrailerRec := s.trailers.find? (fun t => t.fleet == fleet)

/-- The state with the record of trailer `fleet`, if any, changed. -/
def State.modTrailer (s : State) (fleet : Nat) (f : TrailerRec → TrailerRec) : State :=
  { s with trailers := s.trailers.map (fun t => if t.fleet == fleet then f t else t) }

/-- The fleet numbers of the pool's trailers, in the order of their records, which is ascending. -/
def State.fleets (s : State) : List Nat := s.trailers.map TrailerRec.fleet

/-- The numbers of all doors, ascending. -/
def doorNumbers : List Nat := List.range 48

/-- The numbers of all lanes, ascending. -/
def laneNumbers : List Nat := List.range 96

/-- The numbers of all trucks, ascending. -/
def truckNumbers : List Nat := List.range 32

/-- The numbers of all census groups, ascending. -/
def groupNumbers : List Nat := List.range 4

/-! ### The depot clock (R1, R4, R5) -/

/-- The depot clock's second count. -/
def State.now (s : State) : Nat := s.clock.second

/-- The stored time that a duration starting now gives (R4). -/
def State.later (s : State) (d : Nat) : Nat := (s.now + d) % Config.daySeconds

/-- The number of seconds from `base` to `t`, counted forward modulo a day. -/
def offsetFrom (base t : Nat) : Nat := (t + (Config.daySeconds - base % Config.daySeconds)) % Config.daySeconds

/-- The night offset of a time of day (R5). -/
def State.offset (s : State) (t : Nat) : Nat := offsetFrom s.clock.topen t

/-- Whether a stored time has been reached at the present moment (R5). -/
def State.reached (s : State) (t : Nat) : Bool := decide (s.offset t ≤ s.offset s.now)

/-- Whether the phase is INTAKE, TRANSFER or CLOSE. -/
def State.inNight (s : State) : Bool :=
  match s.clock.phase with
  | .intake | .transfer | .close => true
  | _ => false

/-- Whether the phase is TRANSFER or CLOSE, so that trailers load (R64, R138). -/
def State.loadPhase (s : State) : Bool :=
  match s.clock.phase with
  | .transfer | .close => true
  | _ => false

/-- Whether new work may be given out: a night phase with the ending flag clear (R56, R129). -/
def State.working (s : State) : Bool := s.inNight && !s.clock.ending

/-- Whether the part has been started, so that the phase is no longer UNCONFIGURED. -/
def State.started (s : State) : Bool := s.clock.phase != .unconfigured

/-- Whether the survey runs (R184). -/
def State.surveying (s : State) : Bool := s.startUp.survey.isSome

/-! ### The report queue (R176) -/

/-- Mark a subject pending: it joins at the tail unless it already stands in the queue (R176). -/
def State.mark (s : State) (x : Subject) : State :=
  if x ∈ s.link.reports then s else { s with link := { s.link with reports := s.link.reports ++ [x] } }

/-- Take a subject out of the report queue (R52, R72). -/
def State.unmark (s : State) (x : Subject) : State :=
  { s with link := { s.link with reports := s.link.reports.filter (· != x) } }

/-- Change a truck record and mark its subject (R148). -/
def State.touchTruck (s : State) (t : Nat) (f : TruckRec → TruckRec) : State := (s.modTruck t f).mark (.truck t)

/-- Change a trailer record and mark its subject (R53, R62). -/
def State.touchTrailer (s : State) (fleet : Nat) (f : TrailerRec → TrailerRec) : State :=
  (s.modTrailer fleet f).mark (.trailer fleet)

/-- Change a door record and mark its subject (R48, R55). -/
def State.touchDoor (s : State) (d : Nat) (f : DoorRec → DoorRec) : State := (s.modDoor d f).mark (.door d)

/-! ### Raising an exception (R162, R163) -/

/-- Whether an entry has the key given: kind, subject type and subject number (§9.1). -/
def ExcEntry.hasKey (e : ExcEntry) (k : ExcKind) (x : ExcSubject) : Bool := e.kind == k && e.subject == x

/-- A coalescing into an entry: the count rises, stopping at 255 (R162). -/
def ExcEntry.again (e : ExcEntry) (now : Nat) (valid : Bool) (detail : Nat) : ExcEntry :=
  { e with count := min 255 (e.count + 1), last := now, mark := valid, detail := detail }

/-- A new entry (R163). -/
def ExcEntry.new (k : ExcKind) (x : ExcSubject) (now : Nat) (valid : Bool) (detail : Nat) : ExcEntry :=
  { kind := k, subject := x, count := 1, first := now, last := now, mark := valid, detail := detail }

/-- The number of ordinary entries (R163). -/
def ExcList.ordinary (l : ExcList) : Nat := (l.entries.filter (fun e => e.kind != .listOverflow)).length

/-- The detail by which the overflow entry describes a lost exception (R163). -/
def lostDetail (k : ExcKind) (x : ExcSubject) : Nat :=
  k.code * 16777216 + x.typeCode * 65536 + x.number % 65536

/-- The entries after a raising: a coalescing, a new ordinary entry, or a merge into the overflow entry. -/
def ExcList.raised (l : ExcList) (k : ExcKind) (x : ExcSubject) (now : Nat) (valid : Bool) (detail : Nat) :
    List ExcEntry :=
  if l.entries.any (·.hasKey k x) then
    l.entries.map (fun e => if e.hasKey k x then e.again now valid detail else e)
  else if l.ordinary < Config.maxOrdinary then
    l.entries ++ [ExcEntry.new k x now valid detail]
  else if l.entries.any (·.hasKey .listOverflow .none) then
    l.entries.map (fun e => if e.hasKey .listOverflow .none then e.again now valid (lostDetail k x) else e)
  else
    l.entries ++ [ExcEntry.new .listOverflow .none now valid (lostDetail k x)]

/-- The list with the entries given, as one change: the change count goes on by one, from 65535 to 0 (R161), and
the list's subject is marked (R168). -/
def State.setExceptions (s : State) (entries : List ExcEntry) : State :=
  State.mark { s with exceptions := { entries := entries, changes := (s.exceptions.changes + 1) % 65536 } } .exceptions

/-- Raise an exception of kind `k` about `x` (R162, R163). -/
def State.raise (s : State) (k : ExcKind) (x : ExcSubject) (detail : Nat) : State :=
  s.setExceptions (s.exceptions.raised k x s.now s.clock.valid detail)

end Sys2Proof.Machine
end

