-- ==== Sys2Proof/Machine/Planner.lean ====
section
/-!
DEFINITION. The load planner's operations on one plan (chapter 6): geometry, the start of a plan, placement with its
checks, confirmation, release, the drop switch, and the seal conditions.
-/

namespace Sys2Proof.Machine

/-! ### Geometry (R101) -/

/-- The coordinate of row `r` in half-rows from the front wall (R101). -/
def rowCentre (r : Nat) : Nat := 2 * r - 1

/-- The other side of a row. -/
def Side.other : Side → Side
  | .a => .b
  | .b => .a

/-- The side the pattern gives row `r` (R101). -/
def SidePattern.side (p : SidePattern) (r : Nat) : Side :=
  match p with
  | .fixed => .a
  | .alternate => if r % 2 = 1 then .a else .b
  | .paired => if ((r + 1) / 2) % 2 = 1 then .a else .b

/-- The start side of row `r` (R101). -/
def Plan.startSide (p : Plan) (r : Nat) : Side :=
  let side := p.figures.pattern.side r
  if p.figures.flip = true ∧ p.parity = 1 then side.other else side

/-! ### The plan's positions and totals (R102, R103) -/

/-- The stack at a side of a row. -/
def PlanRow.stack (r : PlanRow) : Side → List Entry
  | .a => r.a
  | .b => r.b

/-- The row with the stack at a side replaced. -/
def PlanRow.setStack (r : PlanRow) (side : Side) (st : List Entry) : PlanRow :=
  match side with
  | .a => { r with a := st }
  | .b => { r with b := st }

/-- Row `r`, counting from 1. -/
def Plan.row (p : Plan) (r : Nat) : PlanRow := p.rows.getD (r - 1) default

/-- The stack at a position. -/
def Plan.stack (p : Plan) (r : Nat) (side : Side) : List Entry := (p.row r).stack side

/-- The total height of a stack (R102). -/
def stackHeight (st : List Entry) : Nat := (st.map Entry.height).sum

/-- The total weight of a stack. -/
def stackWeight (st : List Entry) : Nat := (st.map Entry.weight).sum

/-- Every entry of a row, side A before side B. -/
def PlanRow.entries (r : PlanRow) : List Entry := r.a ++ r.b

/-- Every entry of the plan, row 1 first. -/
def Plan.entries (p : Plan) : List Entry := p.rows.flatMap PlanRow.entries

/-- Whether the plan holds any entry, reserved or confirmed. -/
def Plan.holdsAny (p : Plan) : Bool := !p.entries.isEmpty

/-- The current drop (R102). -/
def Plan.current (p : Plan) : Nat :=
  match p.drop with
  | .far => p.far.getD 0
  | .near => p.near

/-- Whether the plan is in its far phase. -/
def Plan.inFar (p : Plan) : Bool := p.drop == .far

/-- The empty positions of a row. -/
def PlanRow.empties (r : PlanRow) : Nat := r.a.isEmpty.toNat + r.b.isEmpty.toNat

/-- The plan with its lost positions recounted: the empty positions in rows 1 to r_open - 1 (R115). -/
def Plan.recounted (p : Plan) : Plan :=
  { p with lost := ((p.rows.take (p.openRow - 1)).map PlanRow.empties).sum }

/-- The plan with an entry of weight `w` at row `r` added to its totals (R103). -/
def Plan.raiseTotals (p : Plan) (r : Nat) (side : Side) (w : Nat) : Plan :=
  { p with
    weight := p.weight + w
    moment := p.moment + w * rowCentre r
    weightA := if side = .a then p.weightA + w else p.weightA
    weightB := if side = .b then p.weightB + w else p.weightB }

/-- The plan with an entry of weight `w` at row `r` taken off its totals (R103). -/
def Plan.lowerTotals (p : Plan) (r : Nat) (side : Side) (w : Nat) : Plan :=
  { p with
    weight := p.weight - w
    moment := p.moment - w * rowCentre r
    weightA := if side = .a then p.weightA - w else p.weightA
    weightB := if side = .b then p.weightB - w else p.weightB }

/-- The plan with the stack at a position replaced. -/
def Plan.setStack (p : Plan) (r : Nat) (side : Side) (st : List Entry) : Plan :=
  { p with rows := p.rows.set (r - 1) ((p.row r).setStack side st) }

/-- A plan as it is started in its buffer (R102). -/
def Plan.start (t : TrailerRec) (figures : ClassRec) (parity : Nat) : Plan :=
  { fleet := t.fleet, classNo := t.cls, figures := figures, near := t.near, far := t.far, parity := parity,
    drop := if t.far.isSome then .far else .near,
    openRow := 1, rows := List.replicate figures.rows { a := [], b := [] },
    weight := 0, moment := 0, weightA := 0, weightB := 0, reserved := 0, lost := 0, loading := false,
    sealResult := none }

/-- The reported axle load: M divided by X, rounded down (R104). -/
def Plan.axleLoad (p : Plan) : Nat := p.moment / p.figures.axleX

/-- The reported kingpin load: W less the reported axle load (R104). Where M exceeds W times X that difference is
negative, and the manual gives the two-byte field no value: it is then a free value. -/
def Plan.kingpinLoad (p : Plan) : Nat :=
  if p.axleLoad ≤ p.weight then p.weight - p.axleLoad else (Config.kingpinBelow p.weight p.axleLoad).toNat

/-! ### Placing a pallet (R106 to R112) -/

/-- The entry of a pallet, its figures copied from the record (R102). -/
def PalletRec.entry (r : PalletRec) (confirmed : Bool) : Entry :=
  { id := r.id, weight := r.weight, height := r.height, topLoad := r.topLoad, hazard := r.hazard, dest := r.dest,
    confirmed := confirmed }

/-- Whether every entry of a stack, bottom first, bears the weights of the entries above it plus `w` (R107). -/
def bears (w : Nat) : List Entry → Bool
  | [] => true
  | e :: above => decide (stackWeight above + w ≤ e.topLoad) && bears w above

/-- Whether a pallet can stand on an occupied stack (R107 (a)). -/
def Plan.canStand (p : Plan) (st : List Entry) (e : Entry) : Bool :=
  decide (st.length < p.figures.tiers) &&
    (match st.getLast? with | some top => top.confirmed | none => false) &&
    decide (stackHeight st + e.height ≤ p.figures.hmax) &&
    e.hazard.isNone && st.all (fun x => x.hazard.isNone) && bears e.weight st

/-- A candidate: its row and side, and whether it is the next row's (R107). -/
structure Candidate where
  row  : Nat
  side : Side
  next : Bool
  deriving DecidableEq, Repr

/-- The sides of a row in the order in which stack candidates are listed: lowest stack first, and the start side first
where heights are equal (R107 (a)). -/
def Plan.stackOrder (p : Plan) (r : Nat) : List Side :=
  let s := p.startSide r
  if stackHeight (p.stack r s.other) < stackHeight (p.stack r s) then [s.other, s] else [s, s.other]

/-- The candidates for a pallet, in order (R107). -/
def Plan.candidates (p : Plan) (e : Entry) : List Candidate :=
  let r := p.openRow
  if r ≤ p.figures.rows then
    ((p.stackOrder r).filter (fun side => !(p.stack r side).isEmpty && p.canStand (p.stack r side) e)).map
        (fun side => { row := r, side := side, next := false }) ++
      ([p.startSide r, (p.startSide r).other].filter (fun side => (p.stack r side).isEmpty)).map
        (fun side => { row := r, side := side, next := false }) ++
      (if r < p.figures.rows then [{ row := r + 1, side := p.startSide (r + 1), next := true }] else [])
  else []

/-- The hazard rule: the row would not hold entries of two different hazard groups (R108). -/
def Plan.passesHazard (p : Plan) (c : Candidate) (e : Entry) : Bool :=
  match e.hazard with
  | none => true
  | some g => (p.row c.row).entries.all (fun x => x.hazard.isNone || x.hazard == some g)

/-- The axle and kingpin tests, multiplied through by X (R109, R119). -/
def ClassRec.axleHolds (f : ClassRec) (moment : Nat) : Bool := decide (moment ≤ f.amax * f.axleX)

/-- The kingpin test on whole numbers (R109, R119): W times X less M is at most Kmax times X. -/
def ClassRec.kingpinHolds (f : ClassRec) (weight moment : Nat) : Bool :=
  decide ((weight * f.axleX : Int) - moment ≤ f.kmax * f.axleX)

/-- The lateral test: the side weights differ by at most Dlat (R110, R119). -/
def lateralHolds (dlat wa wb : Nat) : Bool := decide (wa - wb ≤ dlat ∧ wb - wa ≤ dlat)

/-- The lever check (R109). -/
def Plan.passesLever (p : Plan) (c : Candidate) (e : Entry) : Bool :=
  let q := p.raiseTotals c.row c.side e.weight
  p.figures.axleHolds q.moment && p.figures.kingpinHolds q.weight q.moment

/-- The lateral check (R110): made when Dlat is present and the row would have both its positions occupied. -/
def Plan.passesLateral (p : Plan) (c : Candidate) (e : Entry) : Bool :=
  match p.figures.dlat with
  | none => true
  | some dlat =>
    if (p.stack c.row c.side.other).isEmpty then true
    else
      let q := p.raiseTotals c.row c.side e.weight
      lateralHolds dlat q.weightA q.weightB

/-- The check a candidate fails first, if it fails any (R107, R111). -/
def Plan.failure (p : Plan) (c : Candidate) (e : Entry) : Option Reason :=
  if p.passesHazard c e = false then some .hazard
  else if p.passesLever c e = false then some .axle
  else if p.passesLateral c e = false then some .lateral
  else none

/-- The plan with the pallet added at a candidate that passes (R111, R112). -/
def Plan.add (p : Plan) (c : Candidate) (e : Entry) : Plan :=
  let q := (p.setStack c.row c.side (p.stack c.row c.side ++ [e])).raiseTotals c.row c.side e.weight
  let q := { q with reserved := q.reserved + (if e.confirmed then 0 else 1) }
  if c.next then { q with openRow := q.openRow + 1 }.recounted else q

/-- A place on a plan: row, side and tier. -/
structure Place where
  row  : Nat
  side : Side
  tier : Nat
  deriving DecidableEq, Repr

/-- The answer to a placement request: a place and the plan with the entry on it, or the reason of the refusal. -/
inductive Placement where
  | placed (p : Plan) (at_ : Place)
  | refused (reason : Reason)
  deriving DecidableEq, Repr

/-- A placement request on a plan (R106 to R111), or a recovery placement when the entry is confirmed (R112).
A pallet higher than Hmax on a plan past its last row is refused HEIGHT by R106's order of checks, where R117 says NO_ROOM of any
placement past the drop and payload checks: DESIGN CHOICE (log entry 27). -/
def Plan.place (p : Plan) (e : Entry) : Placement :=
  if ¬ (p.loading = true ∧ e.dest ≠ 0 ∧ e.dest = p.current) then .refused .drop
  else if p.figures.wmax < p.weight + e.weight then .refused .overWeight
  else if p.figures.hmax < e.height then .refused .height
  else
    let cs := p.candidates e
    match cs.find? (fun c => (p.failure c e).isNone) with
    | some c => .placed (p.add c e) { row := c.row, side := c.side, tier := (p.stack c.row c.side).length + 1 }
    | none =>
      match cs with
      | [] => .refused .noRoom
      | c :: _ => .refused ((p.failure c e).getD .axle)

/-! ### Confirmation, release, switch and seal -/

/-- Whether an entry is the reserved entry of pallet `id`. -/
def Entry.isReservedOf (e : Entry) (id : Nat) : Bool := e.id == id && !e.confirmed

/-- Whether the plan holds a reserved entry of pallet `id` (R116). -/
def Plan.hasReserved (p : Plan) (id : Nat) : Bool := p.entries.any (·.isReservedOf id)

/-- Confirm the reserved entry of pallet `id` (R113); a plan without one is left as it is (R116). -/
def Plan.confirm (p : Plan) (id : Nat) : Plan :=
  if p.hasReserved id then
    let mend := fun st : List Entry => st.map (fun e => if e.isReservedOf id then { e with confirmed := true } else e)
    { p with rows := p.rows.map (fun r => { a := mend r.a, b := mend r.b }), reserved := p.reserved - 1 }
  else p

/-- The position of the first reserved entry of pallet `id`, with the entry. -/
def findReserved (id : Nat) : (row : Nat) → List PlanRow → Option (Nat × Side × Entry)
  | _, [] => none
  | row, r :: rest =>
    match r.a.find? (·.isReservedOf id) with
    | some e => some (row, .a, e)
    | none =>
      match r.b.find? (·.isReservedOf id) with
      | some e => some (row, .b, e)
      | none => findReserved id (row + 1) rest

/-- Release the reserved entry of pallet `id` (R114); a plan without one is left as it is (R116). -/
def Plan.release (p : Plan) (id : Nat) : Plan :=
  match findReserved id 1 p.rows with
  | none => p
  | some (r, side, e) =>
    let q := (p.setStack r side ((p.stack r side).filter (fun x => !x.isReservedOf id))).lowerTotals r side e.weight
    { q with reserved := q.reserved - 1 }.recounted

/-- The plan switched to its near drop (R117): the open row goes past the rows that hold entries. -/
def Plan.switched (p : Plan) : Plan :=
  if p.holdsAny then { p with drop := .near, openRow := p.openRow + 1 }.recounted else { p with drop := .near }

/-- Whether the highest-numbered row that holds any entry has both positions occupied (R119). -/
def Plan.lastRowFull (p : Plan) : Bool :=
  match (p.rows.filter (fun r => !r.entries.isEmpty)).getLast? with
  | some r => !r.a.isEmpty && !r.b.isEmpty
  | none => false

/-- The seal conditions that fail on the plan's totals (R119). -/
def Plan.sealConditions (p : Plan) : SealResult :=
  { axle := !p.figures.axleHolds p.moment
    kingpin := !p.figures.kingpinHolds p.weight p.moment
    lateral :=
      match p.figures.dlat with
      | none => false
      | some dlat => p.lastRowFull && !lateralHolds dlat p.weightA p.weightB }

end Sys2Proof.Machine
end

