-- ==== Sys2Proof/Machine/FloorQueues.lean ====
section
/-!
DEFINITION. The floor channel's two queues (R151 to R154), its overrun flags (R152), and the bytes of the messages
the part sends (R155, §10.7).
-/

namespace Sys2Proof.Machine

/-! ### The bytes of a message (§10.7) -/

/-- The kind code of a message (R155). -/
def FloorMsg.kind : FloorMsg → Nat
  | .logonAck .. => 0x41 | .runOffer _ => 0x42 | .dropInstruct .. => 0x43 | .dropOk .. => 0x44 | .refused .. => 0x45
  | .wrongDrop .. => 0x46 | .tooLate .. => 0x47 | .runOver => 0x48 | .redirect .. => 0x49

/-- A run's kind, source, target and remaining count; without a run the kind is 0 (§10.7).
The 0 of the remaining count without a run: DESIGN CHOICE (log entry 11). -/
def runFields : Option Run → List Byte
  | none => u8 0 ++ locationField none ++ locationField none ++ u8 0
  | some r => u8 r.kind.code ++ locationField (some r.source) ++ locationField (r.target.map .door) ++ u8 r.remaining

/-- The body of a message (§10.7). -/
def FloorMsg.body : FloorMsg → List Byte
  | .logonAck state run task =>
      u8 ((state.map TruckState.code).getD 0xFF) ++ runFields run ++ palletField (task.map Task.pallet) ++
        targetField (task.map Task.target)
  | .runOffer r => runFields (some r)
  | .dropInstruct p target => u32 p ++ targetField (some target)
  | .dropOk runStart remaining head => flagByte (!runStart) ++ u8 remaining ++ palletField head
  | .refused p reason => u32 p ++ u8 reason.code
  | .wrongDrop p target => u32 p ++ targetField (some target)
  | .tooLate p recovered => u32 p ++ flagByte recovered
  | .runOver => []
  | .redirect p target => u32 p ++ targetField target

/-! ### The reply queue -/

/-- Whether a reply slot is free (R151). -/
def State.replySlotFree (s : State) : Bool := decide (s.floor.replies.length < Config.maxReplies)

/-- Fill the slot reserved for truck `t`, at the queue's tail (R151, R153). -/
def State.answer (s : State) (t : Nat) (msg : FloorMsg) : State :=
  { s with floor := { s.floor with
      replies := s.floor.replies ++ [{ truck := t, msg := msg, onAir := false, opens := false }] } }

/-- Answer with the DropInstruct of a task just created; its sent event will open the task (R136, R141). -/
def State.instruct (s : State) (t p : Nat) (target : Target) : State :=
  { s with floor := { s.floor with
      replies := s.floor.replies ++ [{ truck := t, msg := .dropInstruct p target, onAir := false, opens := true }] } }

/-- The task of truck `t` has ended: a DropInstruct of it that still waits opens nothing (R141). -/
def State.orphanInstruct (s : State) (t : Nat) : State :=
  { s with floor := { s.floor with
      replies := s.floor.replies.map (fun w => if w.truck == t then { w with opens := false } else w) } }

/-- Set truck `t`'s overrun flag and mark its subject (R152). A notice in flight that would clear the flag no longer
does, since the flag is set again after that report was composed. -/
def State.setOverrun (s : State) (t : Nat) : State :=
  State.mark { s with
    floor := { s.floor with overrun := s.floor.overrun.set t true }
    link := { s.link with sending := s.link.sending.map (fun o =>
      if o.notice = .overrun t then { o with notice := .none } else o) } } (.truck t)

/-! ### The notice queue -/

/-- Hand a notice for truck `t` over: it takes the place of one still waiting for `t`, or joins at the tail (R154). -/
def State.notify (s : State) (t : Nat) (msg : FloorMsg) : State :=
  let w : Waiting := { truck := t, msg := msg, onAir := false, opens := false }
  { s with floor := { s.floor with
      notices :=
        if s.floor.notices.any (fun v => v.truck == t) then
          s.floor.notices.map (fun v => if v.truck == t then w else v)
        else s.floor.notices ++ [w] } }

/-- Whether a waiting message is a RunOffer. -/
def Waiting.isOffer (w : Waiting) : Bool :=
  match w.msg with
  | .runOffer _ => true
  | _ => false

/-- Remove a RunOffer still waiting for truck `t`, which has answered its offer (R154). -/
def State.dropOffer (s : State) (t : Nat) : State :=
  { s with floor := { s.floor with notices := s.floor.notices.filter (fun w => !(w.truck == t && w.isOffer)) } }

/-- The scheduler's logoff notice: every reply and the notice waiting for truck `t` are removed (R153, R154). -/
def State.clearTruckQueues (s : State) (t : Nat) : State :=
  { s with floor := { s.floor with
      replies := s.floor.replies.filter (fun w => w.truck != t)
      notices := s.floor.notices.filter (fun w => w.truck != t) } }

/-- Whether the notice queue has room for a RunOffer to truck `t` (R154). -/
def State.offerRoom (s : State) (t : Nat) : Bool :=
  decide (s.floor.notices.length < Config.maxNotices) && !s.floor.notices.any (fun w => w.truck == t)

end Sys2Proof.Machine
end

