-- ==== Sys2Proof/Machine/Lanes.lean ====
section
/-!
DEFINITION. The lane store's operations (chapter 5): level and nearly-full flag, reservations, run holder and head
claim, takes and drops, the stall mark, and the stages of a census.
-/

namespace Sys2Proof.Machine

/-- A lane's level: its members plus its reservation count (R78). -/
def LaneRec.level (l : LaneRec) : Nat := l.contents.length + l.reserved

/-- The nearly-full flag evaluated: set while the high mark is nonzero and the level is at or above it (R78). -/
def LaneRec.evaluated (l : LaneRec) : LaneRec :=
  { l with nearlyFull := decide (l.high ≠ 0 ∧ l.high ≤ l.level) }

/-- Whether a place can be had in the lane: it is OPEN and its level is below its capacity (R79). -/
def LaneRec.hasRoom (l : LaneRec) : Bool := l.state == .open_ && decide (l.level < l.capacity)

/-- Change a lane record, evaluate its nearly-full flag (R78) and mark its subject (R77, R78, R84, R85, R88).
Every change of a lane marks it: DEDUCED (log entry 12). -/
def State.touchLane (s : State) (l : Nat) (f : LaneRec → LaneRec) : State :=
  (s.modLane l (fun r => (f r).evaluated)).mark (.lane l)

/-- The census group of a lane: its number modulo the group count (§5.1). -/
def State.groupOf (s : State) (l : Nat) : Nat := l % s.census.groups

/-- Change a census group record and mark its subject. -/
def State.touchGroup (s : State) (g : Nat) (f : GroupRec → GroupRec) : State := (s.modGroup g f).mark (.census g)

/-! ### The lock check (R93) -/

/-- Whether nothing is under way in a lane: no reservation, run holder, head claim or task out (R93). -/
def LaneRec.idle (l : LaneRec) : Bool :=
  l.reserved == 0 && l.holder.isNone && l.claim.isNone && l.tasksOut == 0

/-- The lock check of group `g` (R93).
A census with no lane left locks at once: DEDUCED (log entry 15). -/
def State.lockCheck (s : State) (g : Nat) : State :=
  let gr := s.group g
  if gr.stage = .pending ∧ gr.lanes.all (fun l => (s.lane l).idle) = true then
    (gr.lanes.foldl (fun s l => s.touchLane l (fun r => { r with state := .locked })) s).touchGroup g
      (fun r => { r with stage := .locked, timerEnd := some (s.later s.census.timeout) })
  else s

/-- The lock check of the group that has lane `l` as a census lane, if that group is PENDING (R93). -/
def State.lockCheckLane (s : State) (l : Nat) : State :=
  if (s.lane l).state = .pending then s.lockCheck (s.groupOf l) else s

/-! ### Reservations, drops and takes -/

/-- Reserve a place: a reservation request already found grantable (R79). -/
def State.reserve (s : State) (l : Nat) : State := s.touchLane l (fun r => { r with reserved := r.reserved + 1 })

/-- Give up a reserved place (R82), then the lock check in a CENSUS_PENDING lane. -/
def State.unreserve (s : State) (l : Nat) : State :=
  (s.touchLane l (fun r => { r with reserved := r.reserved - 1 })).lockCheckLane l

/-- Put a pallet among a lane's contents: at the tail of a FIFO lane, or into the bay (R77). -/
def LaneRec.join (r : LaneRec) (p : Nat) : LaneRec :=
  { r with contents := if r.fifo then r.contents ++ [p] else insertAsc id p r.contents }

/-- Take a pallet out of a lane's contents. The stall mark is cleared when the head changes (R88). -/
def LaneRec.leave (r : LaneRec) (p : Nat) : LaneRec :=
  let rest := r.contents.filter (· != p)
  { r with contents := rest, stalled := if rest.head? = r.contents.head? then r.stalled else none }

/-- Confirm a drop against a reservation (R82), then the lock check in a CENSUS_PENDING lane. -/
def State.confirmDrop (s : State) (l p : Nat) : State :=
  (s.touchLane l (fun r => { r.join p with reserved := r.reserved - 1 })).lockCheckLane l

/-- Whether a recovery append of a pallet with destination `dest` is granted (R83). -/
def LaneRec.takesRecovery (r : LaneRec) (dest : Nat) : Bool :=
  r.hasRoom && (r.binding == .hold || r.binding == .depot dest)

/-- A granted recovery append (R83). -/
def State.recoverAppend (s : State) (l p : Nat) : State := s.touchLane l (fun r => r.join p)

/-- A granted head take (R86): the head leaves, the claim ends, and tasks out rises by one. -/
def State.headTake (s : State) (l p : Nat) : State :=
  s.touchLane l (fun r => { r.leave p with claim := none, tasksOut := r.tasksOut + 1 })

/-- A granted bay take (R87): the pallet leaves the bay and tasks out rises by one. -/
def State.bayTake (s : State) (l p : Nat) : State :=
  s.touchLane l (fun r => { r.leave p with tasksOut := r.tasksOut + 1 })

/-- A task whose source is this location has ended: a source lane's tasks out falls by one (R87), then the lock check
in a CENSUS_PENDING lane. -/
def State.taskBack (s : State) (source : Location) : State :=
  match source with
  | .door _ => s
  | .lane l => (s.touchLane l (fun r => { r with tasksOut := r.tasksOut - 1 })).lockCheckLane l

/-! ### Run holder, head claim and stall mark -/

/-- A granted run request: the truck becomes the run holder (R84). -/
def State.holdLane (s : State) (l t : Nat) : State := s.touchLane l (fun r => { r with holder := some t })

/-- The run of truck `t` from lane `l` has ended: the run holder is made absent, and a head claim of the same truck
ends with it (R84), then the lock check in a CENSUS_PENDING lane. -/
def State.releaseLane (s : State) (l t : Nat) : State :=
  let r := s.lane l
  if r.holder = some t ∨ r.claim = some t then
    (s.touchLane l (fun r =>
      { r with holder := if r.holder = some t then none else r.holder,
               claim := if r.claim = some t then none else r.claim })).lockCheckLane l
  else s

/-- Whether a claim request of truck `t` for trailer `fleet` is granted (R85). -/
def LaneRec.grantsClaim (r : LaneRec) (t fleet : Nat) : Bool :=
  r.state == .open_ && r.holder == some t && r.claim.isNone && !r.contents.isEmpty && r.stalled != some fleet

/-- A granted claim request (R85). -/
def State.claimHead (s : State) (l t : Nat) : State := s.touchLane l (fun r => { r with claim := some t })

/-- Set the stall mark for trailer `fleet` (R88). -/
def State.stall (s : State) (l fleet : Nat) : State := s.touchLane l (fun r => { r with stalled := some fleet })

/-- Clear the stall marks held for a trailer: at its departure, and when its plan has switched to its near drop (R62, R88).
The lanes in ascending number: DESIGN CHOICE (log entry 25). -/
def State.unstall (s : State) (fleet : Nat) : State :=
  laneNumbers.foldl (fun s l =>
    if (s.lane l).stalled = some fleet then s.touchLane l (fun r => { r with stalled := none }) else s) s

/-! ### Stages of a census -/

/-- Whether a lane is bound, to a depot or to HOLD. -/
def LaneRec.isBound (r : LaneRec) : Bool := r.binding != .none

/-- The lanes of group `g` not bound to NONE, ascending: the census lanes of a group census (R92). -/
def State.groupLanes (s : State) (g : Nat) : List Nat :=
  laneNumbers.filter (fun l => s.groupOf l == g && (s.lane l).isBound)

/-- Reopen a lane (R95, R96): it becomes OPEN. -/
def State.reopen (s : State) (l : Nat) (f : LaneRec → LaneRec) : State :=
  s.touchLane l (fun r => { f r with state := .open_ })

/-- The census of group `g` ends (R95). -/
def State.endCensus (s : State) (g : Nat) : State :=
  s.touchGroup g (fun r => { r with stage := .none, lanes := [], timerEnd := none })

/-- The census of group `g` ends when no census lane of it remains LOCKED (R95). -/
def State.endCensusIfDone (s : State) (g : Nat) : State :=
  if (s.group g).lanes.any (fun l => (s.lane l).state == .locked) then s else s.endCensus g

/-- The lane store's schedule armed at entry to INTAKE (R90). -/
def State.armCensus (s : State) : State :=
  if s.census.interval = 0 then s
  else groupNumbers.foldl (fun s' g => s'.modGroup g (fun r =>
    { r with nextDue :=
        if g < s.census.groups then
          some ((s.clock.topen + s.census.interval * (g + 1) / s.census.groups) % Config.daySeconds)
        else none })) s

/-- Every next due time made absent: at rollover (R13, R90), and when P becomes 0 (R89). -/
def State.disarmCensus (s : State) : State :=
  groupNumbers.foldl (fun s g => s.modGroup g (fun r => { r with nextDue := none })) s

end Sys2Proof.Machine
end

