-- ==== Sys2Proof/Machine/Runs.lean ====
section
/-!
DEFINITION. The move scheduler's operations on trucks, offers and runs (§7.2, §7.3, §7.6, §7.7): joining and leaving
the free-truck queue, the end and the withdrawal of an offer, and the end of a run.
-/

namespace Sys2Proof.Machine

/-! ### The free-truck queue (R127) -/

/-- Truck `t` becomes FREE: free-since is now, and it joins the tail of the queue (R127). -/
def State.joinFree (s : State) (t : Nat) : State :=
  let s := s.touchTruck t (fun r => { r with state := .free, freeSince := some s.now })
  if t ∈ s.sched.freeQueue then s else { s with sched := { s.sched with freeQueue := s.sched.freeQueue ++ [t] } }

/-- Truck `t` leaves the queue. -/
def State.leaveFree (s : State) (t : Nat) : State :=
  { s with sched := { s.sched with freeQueue := s.sched.freeQueue.filter (· != t) } }

/-- The queue with the trucks that joined during a step put into ascending number (R127): `before` is the queue as the
step found it.
DEDUCED (log entry 13). -/
def State.orderNewFree (s : State) (before : List Nat) : State :=
  let old := s.sched.freeQueue.filter (fun t => before.contains t)
  let new := s.sched.freeQueue.filter (fun t => !before.contains t)
  { s with sched := { s.sched with freeQueue := old ++ new.foldr (insertAsc id) [] } }

/-! ### Runs -/

/-- The lane store's notice that a run of truck `t` has ended: the run holder of a LOAD run's source lane (R84, R135). -/
def State.releaseRunLane (s : State) (t : Nat) (r : Option Run) : State :=
  match r with
  | some { kind := .load, source := .lane l, .. } => s.releaseLane l t
  | _ => s

/-- How a truck stands after its run has ended (R135). -/
inductive AfterRun where
  /-- BREAK when the break mark is set, else FREE at the tail of the queue. -/
  | freeOrBreak
  /-- ABSENT, whatever the break mark: the run ended by the expiry of its task. -/
  | absent
  deriving DecidableEq, Repr

/-- Truck `t` goes where its run's end sends it (R135). -/
def State.afterRun (s : State) (t : Nat) (breakMark : Bool) (after : AfterRun) : State :=
  match after with
  | .absent => s.touchTruck t (fun r => { r with state := .absent })
  | .freeOrBreak =>
    if breakMark then s.touchTruck t (fun r => { r with state := .onBreak }) else s.joinFree t

/-- The run of truck `t` ends (R135). `notice` says whether a RunOver is handed to the floor channel. -/
def State.endRun (s : State) (t : Nat) (notice : Bool) (after : AfterRun) : State :=
  match (s.truck t).run with
  | none => s
  | some run =>
    let s := s.touchTruck t (fun r => { r with run := none, offerEnd := none })
    let s := s.releaseRunLane t (some run)
    let s := if notice then s.notify t .runOver else s
    s.afterRun t run.breakMark after

/-- A cause that ends truck `t`'s run when it holds no open task, and else sets the run's closing mark (R134). -/
def State.closeRun (s : State) (t : Nat) : State :=
  if (s.truck t).task.isSome then
    s.touchTruck t (fun r => { r with run := r.run.map (fun run => { run with closing := true }) })
  else s.endRun t true .freeOrBreak

/-- The offer of truck `t` ends, however it was answered: its run is absent, its offer timer has gone, and the lane store
has its notice (R132, R133). -/
def State.endOffer (s : State) (t : Nat) : State :=
  let run := (s.truck t).run
  (s.touchTruck t (fun r => { r with run := none, offerEnd := none })).releaseRunLane t run

/-- The offer of truck `t` is withdrawn: a RunOver takes the place of a RunOffer still waiting (R133, R154). The truck
becomes BREAK for a Break and FREE at the tail otherwise. -/
def State.withdraw (s : State) (t : Nat) (toBreak : Bool) : State :=
  let s := (s.endOffer t).notify t .runOver
  s.afterRun t toBreak .freeOrBreak

/-- A cause that withdraws truck `t`'s offer, or ends or closes its run (R133, R134). -/
def State.stopRun (s : State) (t : Nat) : State :=
  match (s.truck t).state with
  | .offered => s.withdraw t false
  | .onRun => s.closeRun t
  | _ => s

/-- The trucks OFFERED for a run, or ON_RUN on one, that satisfies `p` (R127, R128).
Their RunOvers of one event in ascending truck number: DESIGN CHOICE (log entry 25). -/
def State.trucksOn (s : State) (p : Run → Bool) : List Nat :=
  truckNumbers.filter (fun t =>
    ((s.truck t).state == .offered || (s.truck t).state == .onRun) && ((s.truck t).run.map p).getD false)

/-- Whether a run is an UNLOAD run at door `d`. -/
def Run.unloadsAt (r : Run) (d : Nat) : Bool := r.kind == .unload && r.source == .door d

/-- Whether a run is a LOAD run to door `d`. -/
def Run.loadsTo (r : Run) (d : Nat) : Bool := r.kind == .load && r.target == some d

/-- The door unit's notice that the trailer of door `d` has left UNLOADING (R133, R134). -/
def State.leftUnloading (s : State) (d : Nat) : State :=
  (s.trucksOn (fun r => r.unloadsAt d)).foldl State.stopRun s

/-- The door unit's notice that the trailer of door `d` has left LOADING (R133, R134). -/
def State.leftLoading (s : State) (d : Nat) : State :=
  (s.trucksOn (fun r => r.loadsTo d)).foldl State.stopRun s

/-- The lane store's notice that lane `l` has entered a census (R92, R133, R134).
The RunOvers in ascending truck number: DESIGN CHOICE (log entry 25). -/
def State.laneInCensus (s : State) (l : Nat) : State :=
  (s.trucksOn (fun r => r.source == .lane l)).foldl State.stopRun s

/-- The night clock's notice that the ending flag has been set: every offer is withdrawn, and every run ends or is marked
to (R147).
The RunOvers in ascending truck number: DESIGN CHOICE (log entry 25). -/
def State.stopAllRuns (s : State) : State := (s.trucksOn (fun _ => true)).foldl State.stopRun s

/-! ### Tasks -/

/-- The task of truck `t` is freed (R142, R144, R146): its deadline is no longer held, and a DropInstruct of it still
waiting opens nothing (R141). -/
def State.freeTask (s : State) (t : Nat) : State :=
  (s.touchTruck t (fun r => { r with task := none })).orphanInstruct t

/-- The task list: each truck with an open task, in ascending truck number (§7.9). -/
def State.tasks (s : State) : List (Nat × Task) :=
  truckNumbers.filterMap (fun t => (s.truck t).task.map (fun k => (t, k)))

/-- Whether any task, ISSUING or OPEN, targets door `d` (R68). -/
def State.taskTargets (s : State) (d : Nat) : Bool :=
  s.tasks.any (fun k => k.2.target.location == .door d)

/-- The base time of a task, by its kind and target (R138, R139). -/
def baseTime (d : DispatchSettings) (k : Task) : Nat :=
  match k.kind, k.target with
  | .unload, .lane _ => d.laneBase
  | .unload, .door .. => d.directBase
  | .load, _ => d.doorBase
  | .reloc, _ => d.relocBase

end Sys2Proof.Machine
end

