-- ==== Sys2Proof/Machine/Trailers.lean ====
section
/-!
DEFINITION. Trailers at their doors: plan buffers (R60), entry to LOADING (R64, R105), becoming CLOSING (R65), the seal
check (R68, R119), the drop switch (R67, R117), and the exhausted notice (R26).
-/

namespace Sys2Proof.Machine

/-! ### Times of a trailer (§4.3) -/

/-- A time of day `lead` seconds before Tdep. -/
def beforeTdep (tdep lead : Nat) : Nat := (tdep + (Config.daySeconds - lead % Config.daySeconds)) % Config.daySeconds

/-- The closing time: (Tdep - closing lead) mod 86400 (§4.3). -/
def TrailerRec.closingTime (t : TrailerRec) : Nat := beforeTdep t.tdep t.closingLead

/-- The switch time: (Tdep - switch lead) mod 86400 (§4.3). -/
def TrailerRec.switchTime (t : TrailerRec) : Nat := beforeTdep t.tdep t.switchLead

/-- Whether a trailer is bound to a door: its state is one that only binding gives (§4.7). -/
def TrailerState.isBound : TrailerState → Bool
  | .unloading | .ready | .loading | .closing | .sealed | .emptied => true
  | _ => false

/-- Whether trailer `fleet` is in the pool in state `st`. -/
def State.trailerIs (s : State) (fleet : Nat) (st : TrailerState) : Bool :=
  ((s.trailer? fleet).map (fun t => t.state == st)).getD false

/-! ### Plan buffers (R60) -/

/-- Buffer `b` of a door. -/
def DoorRec.buffer (d : DoorRec) (b : Nat) : Buffer := if b = 0 then d.buffer0 else d.buffer1

/-- The door with buffer `b` replaced. -/
def DoorRec.setBuffer (d : DoorRec) (b : Nat) (x : Buffer) : DoorRec :=
  if b = 0 then { d with buffer0 := x } else { d with buffer1 := x }

/-- The number of a door's LIVE buffer. -/
def DoorRec.liveNo (d : DoorRec) : Option Nat :=
  if d.buffer0.state = .live then some 0 else if d.buffer1.state = .live then some 1 else none

/-- The plan in a door's LIVE buffer. -/
def State.livePlan (s : State) (d : Nat) : Option Plan :=
  match (s.door d).liveNo with
  | none => none
  | some b => ((s.door d).buffer b).plan

/-- Change the plan in a door's LIVE buffer, if it has one. -/
def State.modPlan (s : State) (d : Nat) (f : Plan → Plan) : State :=
  match (s.door d).liveNo with
  | none => s
  | some b => s.modDoor d (fun r =>
      r.setBuffer b { r.buffer b with plan := (r.buffer b).plan.map f })

/-- A plan as its buffer becomes FROZEN: the loading mark is clear, and any reserved entry still standing in it is released
(R105). -/
def Plan.frozen (p : Plan) : Plan :=
  { (p.entries.filter (fun e => !e.confirmed)).foldl (fun p e => p.release e.id) p with loading := false }

/-- The LIVE buffer of a door becomes FROZEN, and is noted as the more recently frozen (R60, R105). -/
def State.freezeBuffer (s : State) (d : Nat) : State :=
  match (s.door d).liveNo with
  | none => s
  | some b => s.modDoor d (fun r =>
      { r.setBuffer b { state := .frozen, plan := (r.buffer b).plan.map Plan.frozen } with recent := some b })

/-- The buffer a trailer is given at its binding: buffer 0 if FREE, else buffer 1 if FREE, else the one frozen earlier
(R60). -/
def DoorRec.bufferToTake (d : DoorRec) : Nat :=
  if d.buffer0.state = .free then 0
  else if d.buffer1.state = .free then 1
  else if d.recent = some 0 then 1 else 0

/-- The trailer bound at door `d`, if the door is BOUND. -/
def State.boundAt (s : State) (d : Nat) : Option TrailerRec :=
  if (s.door d).state = .bound then
    match (s.door d).bound with
    | some f => s.trailer? f
    | none => none
  else none

/-! ### The depot table's answers (R26) -/

/-- The condition of R26 on a depot record. -/
def DepotRec.exhausted (d : DepotRec) : Bool := d.expected == 0 && d.moving == 0 && d.staged == 0

/-- Whether depot `d` is exhausted (R26). -/
def State.exhausted (s : State) (d : Nat) : Bool := (s.depot d).exhausted

/-! ### Closing and sealing -/

/-- Evaluate the seal conditions of the plan at door `d` (R119): the result is recorded in the plan, and SEAL_AXLE is raised
when a condition fails. -/
def State.sealConditions (s : State) (d fleet : Nat) : State :=
  match s.livePlan d with
  | none => s
  | some p =>
    let r := p.sealConditions
    let s := s.modPlan d (fun p => { p with sealResult := some r })
    if r.code = 0 then s else s.raise .sealAxle (.trailer fleet) r.code

/-- The seal check of trailer `fleet` (R68): a CLOSING trailer with no task targeting its door and no reserved entry in its
plan becomes SEALED. -/
def State.sealCheck (s : State) (fleet : Nat) : State :=
  match s.trailer? fleet with
  | some { state := .closing, door := some d, .. } =>
    if s.taskTargets d = false ∧ ((s.livePlan d).map Plan.reserved).getD 0 = 0 then
      (s.touchTrailer fleet (fun t => { t with state := .sealed })).sealConditions d fleet
    else s
  | _ => s

/-- The notice that a task targeting door `d` has ended, or that its plan holds no reserved entry: the seal check of the
trailer bound there (R68). -/
def State.sealCheckDoor (s : State) (d : Nat) : State :=
  match (s.door d).bound with
  | some f => s.sealCheck f
  | none => s

/-- A task with this target has ended: the door unit has its notice when the target is a door (R68). -/
def State.targetEnded (s : State) (target : Target) : State :=
  match target with
  | .lane _ => s
  | .door d .. => s.sealCheckDoor d

/-- A LOADING trailer becomes CLOSING (R65). The planner clears its loading mark (R105), the scheduler sees it leave
LOADING (R62), and the seal check follows. Any other trailer stays as it is. -/
def State.becomeClosing (s : State) (fleet : Nat) : State :=
  match s.trailer? fleet with
  | some { state := .loading, door := some d, .. } =>
    let s := s.touchTrailer fleet (fun t => { t with state := .closing })
    let s := s.modPlan d (fun p => { p with loading := false })
    (s.leftLoading d).sealCheck fleet
  | _ => s

/-- The condition under which CLOSE closes a LOADING trailer: its plan is in its near phase and its near drop is exhausted
(R64, R65). -/
def State.nearExhausted (s : State) (d : Nat) : Bool :=
  match s.livePlan d with
  | some p => !p.inFar && s.exhausted p.near
  | none => false

/-- The trailer bound at door `d` becomes CLOSING if the phase is CLOSE and its near drop is exhausted (R65). -/
def State.closeIfExhausted (s : State) (d : Nat) : State :=
  match (s.door d).bound with
  | some f => if s.clock.phase = .close ∧ s.nearExhausted d = true then s.becomeClosing f else s
  | none => s

/-- The LOADING trailer `fleet` becomes CLOSING if the phase is CLOSE and its near drop is exhausted (R65). -/
def State.closeLoading (s : State) (fleet : Nat) : State :=
  match s.trailer? fleet with
  | some { state := .loading, door := some d, .. } => s.closeIfExhausted d
  | _ => s

/-! ### The drop switch (R117) -/

/-- The plan at door `d`, when it is in drop phase FAR, switches to NEAR (R117); the lane store clears the stall marks held
for the trailer (R88) and the door unit applies R65. -/
def State.switchPlan (s : State) (d : Nat) : State :=
  match s.livePlan d with
  | some p =>
    if p.inFar then
      ((s.modPlan d Plan.switched).unstall p.fleet).closeIfExhausted d
    else s
  | none => s

/-- The switch notice for trailer `fleet` (R67): given when it is bound and its plan is in its far phase. -/
def State.switchNotice (s : State) (fleet : Nat) : State :=
  match s.trailer? fleet with
  | some { state := st, door := some d, .. } => if st.isBound then s.switchPlan d else s
  | _ => s

/-- What the notice that depot `d` has become exhausted brings to the bound trailer `fleet`: its loading plan switches from its far
drop `d` (R105), or it closes for its near drop `d` in CLOSE (R65). -/
def State.trailerExhausted (s : State) (d fleet : Nat) : State :=
  match s.trailer? fleet with
  | some { state := st, door := some n, .. } =>
    match (if st.isBound then s.livePlan n else none) with
    | none => s
    | some p =>
      if p.loading = true ∧ p.inFar = true ∧ p.far = some d then s.switchPlan n
      else if p.inFar = false ∧ p.near = d then s.closeLoading fleet
      else s
  | _ => s

/-- The depot table's notice that depot `d` has become exhausted (R26): the planner switches the loading plans whose far drop
is `d` (R105), and the door unit closes the LOADING trailers for `d` in CLOSE (R65).
The trailers in ascending fleet number, and several notices of one step in the order of their counter changes: DESIGN CHOICE (log
entry 25). -/
def State.exhaustedNotice (s : State) (d : Nat) : State :=
  s.fleets.foldl (fun s f => s.trailerExhausted d f) s

/-! ### Entry to LOADING (R64, R105) -/

/-- The planner's notice that the trailer at door `d` has entered LOADING: its loading mark is set, and a plan in its far
phase whose far drop is exhausted switches (R105). -/
def State.plannerLoading (s : State) (d : Nat) : State :=
  let s := s.modPlan d (fun p => { p with loading := true })
  match s.livePlan d with
  | some p => if p.inFar = true ∧ s.exhausted (p.far.getD 0) = true then s.switchPlan d else s
  | none => s

/-- Give the switch notice when the switch time of trailer `fleet` has been reached by the test of R5 (R51, R64). -/
def State.switchIfReached (s : State) (fleet : Nat) : State :=
  match s.trailer? fleet with
  | some t => if s.reached t.switchTime then s.switchNotice fleet else s
  | none => s

/-- A READY trailer becomes LOADING when the phase is TRANSFER or CLOSE, with the checks made at entry (R64). -/
def State.readyToLoading (s : State) (fleet : Nat) : State :=
  match s.trailer? fleet with
  | some { state := .ready, door := some d, tdep := tdep, closingLead := lead, .. } =>
    if s.loadPhase then
      let s := s.touchTrailer fleet (fun t => { t with state := .loading })
      let s := s.plannerLoading d
      let s := if s.clock.ending then s.becomeClosing fleet else s
      let s := if s.reached (beforeTdep tdep lead) then s.becomeClosing fleet else s
      let s := s.closeIfExhausted d
      s.switchIfReached fleet
    else s
  | _ => s

end Sys2Proof.Machine
end

