-- ==== Sys2Proof/Machine/Pallets.lean ====
section
/-!
DEFINITION. Routing (chapter 2) and pallet records (chapter 3): resolution of a route code, the depot counters, and the
creation, transitions and freeing of records.
-/

namespace Sys2Proof.Machine

/-! ### Resolution (R14, R17, R18) -/

/-- The route value of a code: its high 20 bits (§2.1). -/
def routeValue (code : BitVec 24) : BitVec 20 := BitVec.ofNat 20 (code.toNat / 16)

/-- The sum of the five nibbles of the route value, modulo 16. -/
def nibbleSum (code : BitVec 24) : Nat :=
  let n := code.toNat
  (n / 16 % 16 + n / 256 % 16 + n / 4096 % 16 + n / 65536 % 16 + n / 1048576 % 16) % 16

/-- Whether a route code is well-formed: its check nibble equals the nibble sum (R14). -/
def wellFormedCode (code : BitVec 24) : Bool := code.toNat % 16 == nibbleSum code

/-- The weight of a mask: the number of its bits that are set (§2.2). -/
def maskWeight (m : BitVec 20) : Nat := ((List.range 20).filter (fun i => m.toNat.testBit i)).length

/-- Whether a valid entry matches a route value (R17). -/
def RouteEntry.matches (e : RouteEntry) (v : BitVec 20) : Bool := e.valid && (v &&& e.mask) == e.pattern

/-- The winner among the entries from here on and the best so far: greatest weight, and the lowest entry number where weights
are equal (R17). -/
def bestRoute (v : BitVec 20) : Option RouteEntry → List RouteEntry → Option RouteEntry
  | best, [] => best
  | best, e :: rest =>
    if e.matches v then
      match best with
      | none => bestRoute v (some e) rest
      | some b => bestRoute v (some (if maskWeight b.mask < maskWeight e.mask then e else b)) rest
    else bestRoute v best rest

/-- The outcome of a resolution: a destination, or the cause of destination 0 (R18). -/
inductive Resolution where
  | to (depot : Nat)
  | check | noMatch | disabled
  deriving DecidableEq, Repr

/-- Resolve a route code against the route table and the enabled flags as they stand (R14, R17, R18). -/
def State.resolve (s : State) (code : BitVec 24) : Resolution :=
  if wellFormedCode code then
    match bestRoute (routeValue code) none s.routes.rows with
    | none => .noMatch
    | some e => if (s.depot e.depot).enabled then .to e.depot else .disabled
  else .check

/-- The destination a resolution gives. -/
def Resolution.dest : Resolution → Nat
  | .to d => d
  | _ => 0

/-- The code of a cause: 1 CHECK, 2 NO_MATCH, 3 DISABLED; 0 when there is a destination (R18). -/
def Resolution.cause : Resolution → Nat
  | .to _ => 0 | .check => 1 | .noMatch => 2 | .disabled => 3

/-! ### The depot counters (R23 to R26) -/

/-- The counter of a depot record for a pallet state; MISSING has none (R23). -/
def DepotRec.adjust (f : Nat → Nat) (st : PalletState) (d : DepotRec) : DepotRec :=
  match st with
  | .expected => { d with expected := f d.expected }
  | .moving => { d with moving := f d.moving }
  | .staged => { d with staged := f d.staged }
  | .held => { d with held := f d.held }
  | .loaded => { d with loaded := f d.loaded }
  | .missing => d

/-- The depot record after a pallet record of its own enters `new`, raising the loaded-tonight statistic at LOADED (R25). -/
def DepotRec.enter (new : Option PalletState) (d : DepotRec) : DepotRec :=
  match new with
  | none => d
  | some st =>
    let d := d.adjust (· + 1) st
    if st = .loaded then { d with loadedTonight := min 65535 (d.loadedTonight + 1) } else d

/-- The depot record after a pallet record of its own leaves `old`. -/
def DepotRec.leave (old : Option PalletState) (d : DepotRec) : DepotRec :=
  match old with
  | none => d
  | some st => d.adjust (· - 1) st

/-- A pallet record of destination `d` goes from `old` to `new` (`none` for a record that is created or freed): the counters
follow (R23, R24), and the exhausted notice is given when the condition turns true (R26). -/
def State.count (s : State) (d : Nat) (old new : Option PalletState) : State :=
  let was := s.exhausted d
  let s := s.modDepot d (fun r => (r.leave old).enter new)
  if was = false ∧ s.exhausted d = true then s.exhaustedNotice d else s

/-! ### Records -/

/-- Move the record of pallet `id` to a new state and location, its counters following in the same step (R23). -/
def State.movePallet (s : State) (id : Nat) (place : Whereabouts) : State :=
  match s.pallet? id with
  | none => s
  | some r =>
    (s.modPallet id (fun r => { r with place := place })).count r.dest (some r.place.state) (some place.state)

/-- The end of a task moves its pallet's record, which must be MOVING: a request about a record in any other state is refused
and leaves it unchanged (R42). -/
def State.landPallet (s : State) (id : Nat) (place : Whereabouts) : State :=
  if ((s.pallet? id).map (fun r => r.place.state)) = some .moving then s.movePallet id place else s

/-- Create a record (R24, R28). -/
def State.createPallet (s : State) (r : PalletRec) : State :=
  State.count { s with pallets := insertAsc PalletRec.id r s.pallets } r.dest none (some r.place.state)

/-- Free the record of pallet `id` (R24, R41). -/
def State.freePallet (s : State) (id : Nat) : State :=
  match s.pallet? id with
  | none => s
  | some r =>
    State.count { s with pallets := s.pallets.filter (fun p => p.id != id) } r.dest (some r.place.state) none

/-- The ids of the records at a location, ascending. -/
def State.palletsAt (s : State) (p : Whereabouts → Bool) : List Nat :=
  (s.pallets.filter (fun r => p r.place)).map PalletRec.id

/-- Mark the records still EXPECTED on trailer `fleet` MISSING, and say how many there were (R37).
The records in ascending pallet id: DESIGN CHOICE (log entry 25). -/
def State.markMissing (s : State) (fleet : Nat) : Nat × State :=
  let ids := s.palletsAt (fun w => w == .expected fleet)
  (ids.length, ids.foldl (fun s id => s.movePallet id (.missing (.trailer fleet))) s)

/-- Which measured fields a label carries out of range: 1 for weight, 2 for height, 4 for top-load rating (R32). -/
def labelSaturation (l : Label) : Nat :=
  (if 1 ≤ l.weight ∧ l.weight ≤ 1500 then 0 else 1) + (if 3 ≤ l.height ∧ l.height ≤ 26 then 0 else 2) +
    (if l.topLoad ≤ 2000 then 0 else 4)

/-- Whether a label's hazard group and class code name a group and a class (R29, R33). -/
def labelValid (l : Label) : Bool := decide (l.hazard ≤ 7) && (Service.ofCode l.cls).isSome

/-- The record made from a label, its measured fields saturated (R31 to R33). -/
def labelRecord (l : Label) (id origin dest fleet : Nat) (place : Whereabouts) : PalletRec :=
  { id := id, origin := origin, dest := dest, route := l.route,
    weight := clamp 1 1500 l.weight, height := clamp 3 26 l.height, topLoad := clamp 0 2000 l.topLoad,
    hazard := if l.hazard = 0 then none else some l.hazard,
    service := (Service.ofCode l.cls).getD .standard,
    hold := l.hold || labelSaturation l != 0, saturated := labelSaturation l != 0,
    roll := 0, inbound := some fleet, place := place }

/-- Raise the exceptions of a record's creation, by a Manifest or a Take: SATURATED_LABEL (R32) and UNROUTED (R18).
SATURATED_LABEL is taken first: two blocks raise them and R164 lets either be. DESIGN CHOICE (log entry 25). -/
def State.raiseLabel (s : State) (id : Nat) (l : Label) : State :=
  let cause := (s.resolve l.route).cause
  let s := if labelSaturation l = 0 then s else s.raise .saturatedLabel (.pallet id) (labelSaturation l)
  if cause = 0 then s else s.raise .unrouted (.pallet id) (cause * 16777216 + l.route.toNat)

/-- A trailer's count raised by `by_` (R53); what a count past 65535 becomes is a free value.
DESIGN CHOICE (log entry 18). -/
def raiseCount (count by_ : Nat) : Nat :=
  if count + by_ ≤ 65535 then count + by_ else (Config.countPast count by_).toNat

/-- A trailer's count lowered by one (R53); what a count of 0 becomes is a free value.
DESIGN CHOICE (log entry 18). -/
def lowerCount (count : Nat) : Nat := if count = 0 then Config.countBelow.toNat else count - 1

/-- Raise a trailer's expected count (R31, R53). -/
def State.raiseExpected (s : State) (fleet n : Nat) : State :=
  s.touchTrailer fleet (fun t => { t with expected := raiseCount t.expected n })

/-- Raise a trailer's taken count (R53). -/
def State.raiseTaken (s : State) (fleet : Nat) : State :=
  s.touchTrailer fleet (fun t => { t with taken := raiseCount t.taken 1 })

/-- Raise the loaded count of the trailer bound at door `d` (R53). -/
def State.raiseLoaded (s : State) (d : Nat) : State :=
  match (s.door d).bound with
  | some f => s.touchTrailer f (fun t => { t with loaded := raiseCount t.loaded 1 })
  | none => s

/-! ### Freeing a trailer record (R41, R52, R72) -/

/-- Time events of trailer `fleet`. -/
def TimeEvent.ofTrailer (fleet : Nat) : TimeEvent → Bool
  | .windowStart f | .closing f | .switch f | .tdep f => f == fleet
  | _ => false

/-- The trailer record is freed: its subject leaves the report queue, the inbound trailer field of every record that names it
becomes absent (R41), and its time events are held no more. -/
def State.freeTrailer (s : State) (fleet : Nat) : State :=
  State.unmark { s with
    trailers := s.trailers.filter (fun t => t.fleet != fleet)
    pallets := s.pallets.map (fun p => if p.inbound = some fleet then { p with inbound := none } else p)
    due := s.due.filter (fun e => !e.event.ofTrailer fleet) } (.trailer fleet)

end Sys2Proof.Machine
end

