-- ==== Sys2Proof/Machine/Targets.lean ====
section
/-!
DEFINITION. Where a pallet is to go: staging selection (R80), bay selection (R81), placement on a trailer's plan (R106,
R65) and the target decision (R138).
-/

namespace Sys2Proof.Machine

/-- Whether a depot has a priority lane (R20). -/
def DepotRec.hasPriority (d : DepotRec) : Bool := d.priority && decide (2 ≤ d.group.length)

/-- Whether lane `l` is bound to depot `d`. -/
def State.boundTo (s : State) (l d : Nat) : Bool := (s.lane l).binding == .depot d

/-- The lane staging selection yields at its steps 1 to 3 (R80). -/
def State.stagingLane (s : State) (d : Nat) (service : Service) : Option Nat :=
  let dep := s.depot d
  let room := fun l => s.boundTo l d && (s.lane l).hasRoom
  let ordinary := if dep.hasPriority then dep.group.drop 1 else dep.group
  let first := if service = .premium ∧ dep.hasPriority = true then (dep.group.take 1).find? room else none
  match first with
  | some l => some l
  | none =>
    match ordinary.find? (fun l => room l && !(s.lane l).nearlyFull) with
    | some l => some l
    | none => ordinary.find? room

/-- The lowest-numbered bay that is OPEN with room (R81). -/
def State.bayWithRoom (s : State) : Option Nat :=
  laneNumbers.find? (fun l => (s.lane l).binding == .hold && (s.lane l).hasRoom)

/-- Bay selection for pallet `id` (R81). `overflow` is the first lane of the depot's group when staging selection asks for it
at its step 4, and LANE_FULL is then raised as well. -/
def State.selectBay (s : State) (id : Nat) (overflow : Option Nat) : Option Target × State :=
  match s.bayWithRoom with
  | some b =>
    let s := s.reserve b
    (some (.lane b), match overflow with | some l => s.raise .laneFull (.lane l) id | none => s)
  | none => (none, s.raise .noPlace .none id)

/-- Staging selection for a pallet (R80). -/
def State.selectStaging (s : State) (r : PalletRec) : Option Target × State :=
  match s.stagingLane r.dest r.service with
  | some l => (some (.lane l), s.reserve l)
  | none => s.selectBay r.id (some ((s.depot r.dest).group.headD 0))

/-- Whether a refusal closes the trailer: NO_ROOM or OVER_WEIGHT (R65). -/
def Reason.closes : Reason → Bool
  | .noRoom | .overWeight => true
  | _ => false

/-- The door unit's part in a refused placement at door `d` (R65). -/
def State.placementRefused (s : State) (d : Nat) (reason : Reason) : State :=
  if reason.closes then
    match (s.door d).bound with
    | some f => s.becomeClosing f
    | none => s
  else s

/-- The planner's answer to a placement request at door `d` (R106 to R112); a door without a LIVE plan answers DROP. -/
def State.requestPlace (s : State) (d : Nat) (r : PalletRec) (confirmed : Bool) : Placement :=
  match s.livePlan d with
  | some p => p.place (r.entry confirmed)
  | none => .refused .drop

/-- The doors whose LOADING trailer's plan has current drop `dest`, by earliest Tdep offset, then lowest door (R138). -/
def State.directDoors (s : State) (dest : Nat) (exclude : Option Nat) : List Nat :=
  let open_ := doorNumbers.filter (fun d =>
    some d != exclude &&
      (match s.boundAt d, s.livePlan d with
       | some t, some p => t.state == .loading && p.current == dest && dest != 0
       | _, _ => false))
  let key := fun d => s.offset (((s.boundAt d).map TrailerRec.tdep).getD 0) * 64 + d
  open_.foldr (insertAsc key) []

/-- Direct transfer: a placement request at each door in turn, until one is accepted (R138 step 2). -/
def State.tryDirect (r : PalletRec) : List Nat → State → Option Target × State
  | [], s => (none, s)
  | d :: rest, s =>
    match s.requestPlace d r false with
    | .placed p at_ => (some (.door d at_.row at_.side at_.tier), s.modPlan d (fun _ => p))
    | .refused reason => State.tryDirect r rest (s.placementRefused d reason)

/-- The target decision for a pallet (R138): the target, already reserved, if there is one. -/
def State.decideTarget (s : State) (r : PalletRec) (exclude : Option Nat) : Option Target × State :=
  if r.dest = 0 ∨ r.hold = true then s.selectBay r.id none
  else
    match (if s.loadPhase then State.tryDirect r (s.directDoors r.dest exclude) s else (none, s)) with
    | (some t, s) => (some t, s)
    | (none, s) => s.selectStaging r

end Sys2Proof.Machine
end

