-- ==== Sys2Proof/Machine/Doors.lean ====
section
/-!
DEFINITION. Doors and the passage of trailers through them (chapter 4): calls (R56), binding (R59 to R61), the end of
unloading (R63), departure (R69), early undock (R70) and the redirect of tasks (R146).
-/

namespace Sys2Proof.Machine

/-! ### Calls (R55, R56) -/

/-- Whether a queued trailer is callable: it has no arrival window, or its window start has been reached (R55). -/
def State.callable (s : State) (fleet : Nat) : Bool :=
  match s.trailer? fleet with
  | some { window := some (start, _), .. } => s.reached start
  | some _ => true
  | none => false

/-- The call check for door `d` (R56). -/
def State.callCheck (s : State) (d : Nat) : State :=
  if (s.door d).state = .free ∧ s.working = true then
    match (s.door d).queue.find? s.callable with
    | some f =>
      (s.touchDoor d (fun r =>
        { r with state := .called, called := some f, callEnd := some (s.later r.callTime),
                 queue := r.queue.filter (· != f) })).touchTrailer f (fun t => { t with state := .called })
    | none => s
  else s

/-- Door `d` becomes FREE, with no call standing and no trailer bound, and the call check is made (R56). -/
def State.freeDoor (s : State) (d : Nat) : State :=
  (s.touchDoor d (fun r => { r with state := .free, called := none, callEnd := none, bound := none })).callCheck d

/-- The trailer's door (R54): the home door of the depot it loads for, or of its origin when it is INBOUND; none when that
depot has no home door or the door is OFF. -/
def State.doorFor (s : State) (t : TrailerRec) : Option Nat :=
  let home := (s.depot (if t.role = .inbound then t.origin else t.near)).home
  match home with
  | some d => if (s.door d).state = .off then none else some d
  | none => none

/-- Take a trailer out of its door's yard queue (R55). -/
def State.leaveQueue (s : State) (t : TrailerRec) : State :=
  match t.door with
  | some e => s.touchDoor e (fun r => { r with queue := r.queue.filter (· != t.fleet) })
  | none => s

/-! ### Binding (R59 to R61) -/

/-- Step 1 of a binding: the trailer leaves its queue, or the call that stands for it at another door ends (R59). -/
def State.endOtherCall (s : State) (d : Nat) (t : TrailerRec) : State :=
  match t.state, t.door with
  | .yard, _ => s.leaveQueue t
  | .called, some e =>
    if e = d then s
    else if (s.door e).state = .called then s.freeDoor e
    else s.touchDoor e (fun r => { r with called := none })
  | _, _ => s

/-- Step 2 of a binding: an expected trailer other than the one bound goes back to the head of the door's queue (R59). -/
def State.displace (s : State) (d fleet : Nat) : State :=
  match (s.door d).called with
  | some g =>
    if g = fleet then s
    else (s.touchDoor d (fun r => { r with called := none, queue := g :: r.queue })).touchTrailer g
      (fun t => { t with state := .yard })
  | none => s

/-- Step 3 of a binding: WRONG_DOOR when the door is not the trailer's (R59). -/
def State.checkDoor (s : State) (d : Nat) (t : TrailerRec) : State :=
  let own := (if t.state = .announced then s.doorFor t else t.door).getD 255
  if own = d then s else s.raise .wrongDoor (.trailer t.fleet) (d * 256 + own)

/-- Give trailer `t` a plan buffer at door `d` and start its plan, the door's parity toggling (R60, R61, R102). -/
def State.giveBuffer (s : State) (d : Nat) (t : TrailerRec) : State :=
  let b := (s.door d).bufferToTake
  let s := (s.trailers.filter (fun u => u.buffer = some (d, b))).foldl
    (fun s u => s.touchTrailer u.fleet (fun u => { u with buffer := none })) s
  let plan := Plan.start t (s.classes.get t.cls) (s.door d).parity
  (s.touchDoor d (fun r => { r.setBuffer b { state := .live, plan := some plan } with parity := 1 - r.parity })).touchTrailer
    t.fleet (fun u => { u with buffer := some (d, b) })

/-- Bind trailer `fleet` at door `d`, which is ARRIVED (R59). -/
def State.bindTrailer (s : State) (d fleet : Nat) : State :=
  match s.trailer? fleet with
  | none => s
  | some t =>
    let s := ((s.endOtherCall d t).displace d fleet).checkDoor d t
    let dock := (s.door d).arrival
    let s := s.touchDoor d (fun r => { r with state := .bound, bound := some fleet, called := none, callEnd := none })
    let s := s.touchTrailer fleet (fun u =>
      { u with door := some d, dock := dock, state := if t.role = .outbound then .ready else .unloading })
    let s := if t.role = .inbound then s else s.giveBuffer d t
    s.readyToLoading fleet

/-! ### The end of unloading (R63) -/

/-- The unloading of trailer `fleet`, which is UNLOADING, ends (R63). -/
def State.endUnloading (s : State) (fleet : Nat) : State :=
  match s.trailer? fleet with
  | some { state := .unloading, role := role, door := some d, .. } =>
    let (n, s) := s.markMissing fleet
    let s := if n = 0 then s else s.raise .shortDelivery (.trailer fleet) n
    let s := s.touchTrailer fleet (fun t => { t with state := if role = .inbound then .emptied else .ready })
    (s.leftUnloading d).readyToLoading fleet
  | _ => s

/-! ### Redirect (R146) -/

/-- The redirect of truck `t`'s task away from door `d`, if it targets `d` (R146). -/
def State.redirectTask (d : Nat) (s : State) (t : Nat) : State :=
  match (s.truck t).task with
  | none => s
  | some k =>
    if k.target.location = .door d then
      let s := (s.modPlan d (fun p => p.release k.pallet)).sealCheckDoor d
      match s.pallet? k.pallet with
      | none => s
      | some r =>
        match s.decideTarget r (some d) with
        | (some target, s) =>
          (s.touchTruck t (fun r => { r with task := r.task.map (fun k =>
              { k with target := target, open_ := true, deadline := some (s.later s.sched.settings.laneBase) }) })).notify t
            (.redirect k.pallet (some target))
        | (none, s) =>
          let s := s.landPallet k.pallet (.missing (.truck t))
          let s := ((s.freeTask t).taskBack k.source).notify t (.redirect k.pallet none)
          s.endRun t false .freeOrBreak
    else s

/-- The departure notice to the scheduler and the lane store (R62): runs of the door end, the stall marks held for the trailer
are cleared (R88). -/
def State.departureNotice (s : State) (d fleet : Nat) : State := ((s.leftUnloading d).leftLoading d).unstall fleet

/-- Departure of the SEALED or EMPTIED trailer `fleet` from door `d` (R69). -/
def State.depart (s : State) (d fleet : Nat) : State :=
  let s := s.touchTrailer fleet (fun t => { t with state := .departed })
  ((s.departureNotice d fleet).freezeBuffer d).freeDoor d

/-- Early undock of trailer `fleet`, in state `st`, from door `d` (R70).
The runs and offers of the door end, with their RunOvers, before its tasks are redirected, with their Redirects, since R70 and R146
give the two no order: DESIGN CHOICE (log entry 25). -/
def State.earlyUndock (s : State) (d fleet : Nat) (st : TrailerState) : State :=
  let s := s.touchTrailer fleet (fun t => { t with state := .departed, early := true })
  let (n, s) := if st = .unloading then s.markMissing fleet else (0, s)
  let s := (s.modPlan d (fun p => { p with loading := false })).departureNotice d fleet
  let s := truckNumbers.foldl (State.redirectTask d) s
  let s := (s.freezeBuffer d).freeDoor d
  s.raise .earlyUndock (.trailer fleet) (st.code * 16777216 + d * 65536 + n)

/-! ### Line events (R48) -/

/-- The line becomes present at an enabled door (R48). -/
def State.linePresent (s : State) (d : Nat) : State :=
  match (s.door d).state with
  | .free => s.touchDoor d (fun r => { r with state := .arrived, called := none, arrival := some s.now })
  | .called => s.touchDoor d (fun r => { r with state := .arrived, callEnd := none, arrival := some s.now })
  | _ => s

/-- The line becomes absent at an enabled door (R48). -/
def State.lineAbsent (s : State) (d : Nat) : State :=
  match (s.door d).state with
  | .arrived =>
    match (s.door d).called with
    | some _ => s.touchDoor d (fun r => { r with state := .called, callEnd := some (s.later r.callTime) })
    | none => s.freeDoor d
  | .bound =>
    match s.boundAt d with
    | some t =>
      match t.state with
      | .sealed | .emptied => s.depart d t.fleet
      | _ => s.earlyUndock d t.fleet t.state
    | none => s
  | _ => s

/-- A door set from its debounced level at the survey's end (R49). -/
def State.surveyDoor (s : State) (d : Nat) : State :=
  let r := s.door d
  let s := s.mark (.door d)
  if r.enabled then
    s.modDoor d (fun r =>
      if r.present then { r with state := .arrived, called := none, arrival := some s.now } else { r with state := .free })
  else s

end Sys2Proof.Machine
end

