-- ==== Sys2Proof/Machine/Night.lean ====
section
/-!
DEFINITION. The night clock (chapter 1): phase entries and their notices (R10), the end of a night and rollover (R11 to
R13), the stored times (R4), and the passing of reference clock periods (R1, R47, R184).
-/

namespace Sys2Proof.Machine

/-! ### Phase entries (R10) -/

/-- The phase becomes `p`; the phase subject is marked (R7). -/
def State.setPhase (s : State) (p : Phase) : State :=
  State.mark { s with clock := { s.clock with phase := p } } .phase

/-- Every READY trailer becomes LOADING (R64).
The trailers in ascending fleet number: DESIGN CHOICE (log entry 25). -/
def State.readyAll (s : State) : State := s.fleets.foldl State.readyToLoading s

/-- Entry to INTAKE: the census schedule is armed (R90) and the call check is made for every door (R56).
The lane store's work before the door unit's, the doors in ascending number: DESIGN CHOICE (log entry 25). -/
def State.enterIntake (s : State) : State := doorNumbers.foldl State.callCheck (s.setPhase .intake).armCensus

/-- Entry to TRANSFER: every READY trailer becomes LOADING (R64). -/
def State.enterTransfer (s : State) : State := (s.setPhase .transfer).readyAll

/-- Entry to CLOSE: every READY trailer becomes LOADING (R64), and LOADING trailers whose near drop is exhausted and whose
plan has no far drop pending become CLOSING (R65).
The trailers in ascending fleet number, each with all that its own entry brings: DESIGN CHOICE (log entry 25). -/
def State.enterClose (s : State) : State :=
  s.fleets.foldl (fun s f => (s.readyToLoading f).closeLoading f) (s.setPhase .close)

/-- Entry to ending: the flag is set; offers are withdrawn and runs end or are marked to (R147); every LOADING trailer
becomes CLOSING (R65).
The scheduler's work before the door unit's, the trucks in ascending number and the trailers in ascending fleet number: DESIGN CHOICE
(log entry 25). -/
def State.enterEnding (s : State) : State :=
  let s := State.mark { s with clock := { s.clock with ending := true } } .phase
  s.fleets.foldl State.becomeClosing s.stopAllRuns

/-- One step of the phase machine: the entry a phase time or AdvancePhase makes from the phase now in force (R8, R9). -/
def State.nextPhase (s : State) : State :=
  match s.clock.phase with
  | .unconfigured => s
  | .idle => s.enterIntake
  | .intake => s.enterTransfer
  | .transfer => s.enterClose
  | .close => if s.clock.ending then s else s.enterEnding

/-! ### The end of a night (R11 to R13) -/

/-- A pallet record at rollover: the roll count of a STAGED or HELD record rises by one, and 7 stays 7 (R12). -/
def PalletRec.rolled (r : PalletRec) : PalletRec :=
  match r.place with
  | .staged _ | .held _ => { r with roll := min 7 (r.roll + 1) }
  | _ => r

/-- Whether a trailer's report carries a loaded-tonight statistic that rollover sets to 0 (R13). -/
def State.carriesLoaded (s : State) (t : TrailerRec) : Bool :=
  (s.depot t.near).loadedTonight != 0 || (s.depot (t.far.getD 0)).loadedTonight != 0

/-- Rollover (R12, R13).
The trailers' subjects are marked after the phase's, in ascending fleet number: DESIGN CHOICE (log entry 25). -/
def State.rollover (s : State) : State :=
  let marked := (s.trailers.filter s.carriesLoaded).foldl (fun s t => s.mark (.trailer t.fleet)) s
  State.disarmCensus { marked with
    pallets := (marked.pallets.filter (fun r => r.place.state != .missing)).map PalletRec.rolled
    depots := marked.depots.map (fun d => { d with loadedTonight := 0 })
    clock := { marked.clock with rolledOver := true } }

/-- The night ends: the ending flag clears, the phase becomes IDLE, and rollover is made (R11). -/
def State.endNight (s : State) : State :=
  State.rollover (State.setPhase { s with clock := { s.clock with ending := false } } .idle)

/-- The end of ending: the task list has become empty while the ending flag is set, or was empty when the flag was set
(R10, R11). `before` is the state the step began in. -/
def State.endNightIfDrained (before s : State) : State :=
  if s.clock.ending = true ∧ s.tasks = [] ∧ (before.clock.ending = false ∨ before.tasks ≠ []) then s.endNight else s

/-! ### Stored times (R4) -/

/-- Whether an event is that a phase time is reached. -/
def TimeEvent.isPhaseTime : TimeEvent → Bool
  | .phaseTime _ => true
  | _ => false

/-- The time of day that a night time holds. -/
def NightClock.time (c : NightClock) : NightTime → Nat
  | .topen => c.topen | .ttransfer => c.ttransfer | .tclose => c.tclose | .tend => c.tend

/-- The time that the owner of an event stores for it, if it stores one. -/
def State.storedTime (s : State) : TimeEvent → Option Nat
  | .phaseTime t => if s.clock.nightValid then some (s.clock.time t) else none
  | .callTimer d => (s.door d).callEnd
  | .windowStart f =>
    match s.trailer? f with
    | some { state := .yard, window := some (start, _), .. } => some start
    | _ => none
  | .closing f => (s.trailer? f).map TrailerRec.closingTime
  | .switch f => (s.trailer? f).map TrailerRec.switchTime
  | .tdep f => (s.trailer? f).map TrailerRec.tdep
  | .censusDue g => (s.group g).nextDue
  | .censusTimeout g => (s.group g).timerEnd
  | .offer t => (s.truck t).offerEnd
  | .deadline t => (s.truck t).task.bind Task.deadline

/-- Every event that a block could store a time for. -/
def State.timeEvents (s : State) : List TimeEvent :=
  [.phaseTime .topen, .phaseTime .ttransfer, .phaseTime .tclose, .phaseTime .tend] ++
    doorNumbers.map .callTimer ++
    s.trailers.flatMap (fun t => [.windowStart t.fleet, .closing t.fleet, .switch t.fleet, .tdep t.fleet]) ++
    groupNumbers.flatMap (fun g => [.censusDue g, .censusTimeout g]) ++
    truckNumbers.flatMap (fun t => [.offer t, .deadline t])

/-- Whether a due event's time is still held by its owner. -/
def State.stillHeld (s : State) (e : Due) : Bool := s.storedTime e.event == some e.time

/-- The events still waiting to be taken, with those the present second count reaches; none is reached while the clock is
not valid (R4). -/
def State.dueNow (s : State) : List Due :=
  let kept := s.due.filter s.stillHeld
  if s.clock.valid then
    kept ++ ((s.timeEvents.filter (fun e => s.storedTime e == some s.now)).map (fun e => { event := e, time := s.now : Due })).filter
      (fun e => !kept.contains e)
  else kept

/-- Whether an event is due: a tick has reached it and its owner still holds its time.
DESIGN CHOICE (log entry 3). -/
def State.isDue (s : State) (e : TimeEvent) : Bool := s.due.any (fun x => x.event == e && s.stillHeld x)

/-- The state with an event taken: it is due no more. -/
def State.took (s : State) (e : TimeEvent) : State := { s with due := s.due.filter (fun x => x.event != e) }

/-! ### Reference clock periods (R1, R47, R184) -/

/-- A count after `n` more periods; a complete count stays complete. -/
def PeriodCount.add (c : PeriodCount) (n : Nat) : PeriodCount := { c with elapsed := min c.total (c.elapsed + n) }

/-- Whether a count is complete. -/
def PeriodCount.complete (c : PeriodCount) : Bool := decide (c.total ≤ c.elapsed)

/-- What the sense line reads through its polarity (R47). -/
def DoorRec.reading (r : DoorRec) : Bool := r.line == (r.polarity == .presentHigh)

/-- The debounce count following the reading: abandoned when the reading equals the debounced level before the count is complete,
and begun, with the number of periods fixed, when it differs and none is in progress; a complete count stands, whatever the line
does, until its line event is taken (R47).
DESIGN CHOICE (log entry 4). -/
def DoorRec.sensed (r : DoorRec) (divisor : Nat) : DoorRec :=
  match r.count with
  | none =>
    if r.reading = r.present then r else { r with count := some { elapsed := 0, total := r.debounce * divisor } }
  | some c => if r.reading = r.present ∧ c.complete = false then { r with count := none } else r

/-- A door after `n` periods. -/
def DoorRec.passed (r : DoorRec) (divisor n : Nat) : DoorRec :=
  let r := r.sensed divisor
  { r with count := r.count.map (fun c => c.add n) }

/-- Every count of periods goes on by `n`: the debounce counts (R47) and the survey's (R184). -/
def State.passPeriods (s : State) (n : Nat) : State :=
  { s with
    doors := s.doors.map (fun r => r.passed s.clock.divisor n)
    startUp := { s.startUp with survey := s.startUp.survey.map (fun c => c.add n) } }

/-- The tick: the periods left in the second pass, the second count advances, the divisor now in force governs the second that
begins, and the stored times equal to the new count are reached (R1, R2, R4).
One step may stand for many periods. DESIGN CHOICE (log entry 2). -/
def State.tick (s : State) : State :=
  let s := s.passPeriods (s.clock.secondDivisor - s.clock.sub)
  let s := { s with clock := { s.clock with
    second := (s.clock.second + 1) % Config.daySeconds, sub := 0, secondDivisor := s.clock.divisor } }
  { s with due := s.dueNow }

/-- One reference clock period: the sub-second count rises by one, and the tick is made when it reaches the divisor (R1). -/
def State.period (s : State) : State :=
  if s.clock.secondDivisor ≤ s.clock.sub + 1 then s.tick
  else
    let s := s.passPeriods 1
    { s with clock := { s.clock with sub := s.clock.sub + 1 } }

/-! ### The survey (R184) -/

/-- The survey begins: it counts out the largest debounce time of the 48 doors, times the divisor in force (R184).
A divisor that SetTiming has just set is in force for it at once, before the next second begins: DESIGN CHOICE (log entry 30). -/
def State.beginSurvey (s : State) : State :=
  { s with startUp := { s.startUp with
      survey := some { elapsed := 0, total := (s.doors.rows.map DoorRec.debounce).foldl max 0 * s.clock.divisor } } }

end Sys2Proof.Machine
end

