-- ==== Sys2Proof/Machine/Pairing.lean ====
section
/-!
DEFINITION. Demands (R128), pairing (R129, R130) and offers (R131).
-/

namespace Sys2Proof.Machine

/-- A run the scheduler could offer now (§7.4). -/
structure Demand where
  kind   : RunKind
  source : Location
  target : Option Nat
  deriving DecidableEq, Repr

/-! ### Eligible demands (R128) -/

/-- Trucks OFFERED for or ON_RUN on a run that satisfies `p` (R128). -/
def State.runCount (s : State) (p : Run → Bool) : Nat := (s.trucksOn p).length

/-- The doors that `p` holds of, in order of a time's offset and then door number (R130). -/
def State.doorsBy (s : State) (p : Nat → TrailerRec → Bool) (time : TrailerRec → Nat) : List Nat :=
  let open_ := doorNumbers.filter (fun d => ((s.boundAt d).map (p d)).getD false)
  let key := fun d => s.offset (((s.boundAt d).map time).getD 0) * 64 + d
  open_.foldr (insertAsc key) []

/-- The eligible UNLOAD demands, by earliest dock-time offset and then lowest door. -/
def State.unloadDemands (s : State) : List Demand :=
  (s.doorsBy (fun d t => t.state == .unloading && decide (s.runCount (·.unloadsAt d) < (s.door d).unloadLimit))
      (fun t => t.dock.getD 0)).map (fun d => { kind := .unload, source := .door d, target := none })

/-- Whether lane `l` can be the source of a LOAD run for trailer `fleet` and current drop `d`, apart from standing in the
depot's group (R128). -/
def State.loadSource (s : State) (l d fleet : Nat) : Bool :=
  let r := s.lane l
  r.binding == .depot d && r.state == .open_ && !r.contents.isEmpty && r.holder.isNone && r.stalled != some fleet

/-- The eligible LOAD demands, by earliest Tdep offset, then lowest door, then the lane's place in the group. -/
def State.loadDemands (s : State) : List Demand :=
  (s.doorsBy (fun d t => t.state == .loading && decide (s.runCount (·.loadsTo d) < (s.door d).loadLimit))
      TrailerRec.tdep).flatMap (fun d =>
    match s.livePlan d with
    | none => []
    | some p =>
      (((s.depot p.current).group.filter (fun l => s.loadSource l p.current p.fleet)).map
        (fun l => { kind := .load, source := .lane l, target := some d })))

/-- Whether a member of a bay is a released pallet that could go on (R128). -/
def State.canGoOn (s : State) (id : Nat) : Bool :=
  match s.pallet? id with
  | some { place := .staged _, dest := d, service := service, .. } =>
    (s.stagingLane d service).isSome || (s.loadPhase && !(s.directDoors d none).isEmpty)
  | _ => false

/-- Whether the RELOCATE demand for bay `b` holds, truck `except` left out of the test (R128, R142). -/
def State.relocates (s : State) (b : Nat) (except : Option Nat) : Bool :=
  let r := s.lane b
  r.binding == .hold && r.state == .open_ &&
    (s.trucksOn (fun run => run.kind == .reloc && run.source == .lane b)).all (fun t => some t == except) &&
    r.contents.any s.canGoOn

/-- The eligible RELOCATE demands, by lowest bay. -/
def State.relocDemands (s : State) : List Demand :=
  (laneNumbers.filter (fun b => s.relocates b none)).map (fun b => { kind := .reloc, source := .lane b, target := none })

/-! ### The choice (R130) -/

/-- Whether a LOAD demand is urgent: its trailer's Tdep has an offset no greater than that of now plus the urgency lead. -/
def State.urgent (s : State) (d : Demand) : Bool :=
  match d.target with
  | none => false
  | some n =>
    match s.boundAt n with
    | some t => decide (s.offset t.tdep ≤ s.offset s.now + s.sched.settings.urgencyLead)
    | none => false

/-- The demand chosen by alternation: a load slot takes the first LOAD demand, or the first UNLOAD demand when there is none;
an unload slot does the reverse. -/
def alternate (loadSlot : Bool) (loads unloads : List Demand) : Option Demand :=
  if loadSlot then loads.head?.or unloads.head? else unloads.head?.or loads.head?

/-- The demand chosen for a truck whose last location is `last`, and whether alternation chose it (R130). -/
def State.chooseDemand (s : State) (last : Option Location) : Option (Demand × Bool) :=
  let loads := s.loadDemands
  let unloads := s.unloadDemands
  let relocs := s.relocDemands
  match (loads ++ unloads ++ relocs).find? (fun d => some d.source == last) with
  | some d => some (d, false)
  | none =>
    match loads.find? s.urgent with
    | some d => some (d, false)
    | none =>
      match alternate (decide (s.sched.counter < s.sched.settings.loadSlots)) loads unloads with
      | some d => some (d, true)
      | none => relocs.head?.map (fun d => (d, false))

/-! ### Offers and pairings (R129, R131) -/

/-- The run limit of a kind. -/
def runLimit (d : DispatchSettings) : RunKind → Nat
  | .unload => d.unloadLimit | .load => d.loadLimit | .reloc => d.relocLimit

/-- Truck `t` leaves the queue and is offered the run of a demand (R131). -/
def State.offer (s : State) (t : Nat) (d : Demand) : State :=
  let run : Run :=
    { kind := d.kind, source := d.source, target := d.target, remaining := runLimit s.sched.settings d.kind,
      closing := false, breakMark := false, begun := false }
  let s := (s.leaveFree t).touchTruck t (fun r => { r with state := .offered, run := some run, offerEnd := none })
  let s := match d.kind, d.source with
    | .load, .lane l => s.holdLane l t
    | _, _ => s
  s.notify t (.runOffer run)

/-- One pairing, if the four conditions of R129 hold: the head of the queue and the demand chosen for it. -/
def State.pairOne (s : State) : Option State :=
  if s.working = true ∧ s.surveying = false then
    match s.sched.freeQueue with
    | [] => none
    | t :: _ =>
      if s.offerRoom t then
        match s.chooseDemand (s.truck t).lastLoc with
        | none => none
        | some (d, alternated) =>
          let s := if alternated then { s with sched := { s.sched with counter := (s.sched.counter + 1) % 8 } } else s
          some (s.offer t d)
      else none
  else none

/-- Pairings, one after another, until a condition fails: at most `fuel` of them. -/
def State.pairUpTo : (fuel : Nat) → State → State
  | 0, s => s
  | fuel + 1, s =>
    match s.pairOne with
    | some s' => State.pairUpTo fuel s'
    | none => s

/-- The pairings of a step (R129). Each takes a truck out of the queue, so the queue's length bounds them. -/
def State.pair (s : State) : State := s.pairUpTo s.sched.freeQueue.length

end Sys2Proof.Machine
end

