-- ==== Sys2Proof/Machine/Reports.lean ====
section
/-!
DEFINITION. The reports and their composition (R178, §10.7), and the transmitter's choice of its next frame (R177).
-/

namespace Sys2Proof.Machine

/-! ### Report bodies (§10.7) -/

/-- The body of PhaseReport. -/
def State.phaseBody (s : State) : List Byte :=
  let c := s.clock
  u8 c.phase.code ++ u8 c.reportFlags ++ u24 c.second ++ u24 c.topen ++ u24 c.ttransfer ++ u24 c.tclose ++ u24 c.tend

/-- The body of DoorReport. -/
def State.doorBody (s : State) (d : Nat) : List Byte :=
  let r := s.door d
  u8 d ++ u8 r.state.code ++ flagByte r.present ++ fleetField r.called ++ timeField r.callEnd ++ timeField r.arrival ++
    fleetField r.bound ++ u8 r.queue.length ++ fleetField r.queue.head? ++ u8 r.bufferByte ++ u8 r.parity

/-- A member of a lane: its pallet id and its record's state. -/
def State.memberField (s : State) (id : Nat) : List Byte :=
  u32 id ++ u8 (((s.pallet? id).map (fun r => r.place.state.code)).getD 0xFF)

/-- The body of LaneReport (§10.7): the fields of QueryLane's lane form (R98), in the layout the report table gives. -/
def State.laneBody (s : State) (l : Nat) : List Byte :=
  let r := s.lane l
  u8 l ++ u8 r.binding.code ++ u8 r.state.code ++ u8 r.capacity ++ u8 r.high ++ u8 r.level ++ u8 r.reserved ++
    u8 r.reportFlags ++ numberField r.holder ++ numberField r.claim ++ u8 r.tasksOut ++ fleetField r.stalled ++
    timeField r.lastCensus ++ u8 (s.groupOf l) ++ u8 r.contents.length ++ r.contents.flatMap s.memberField

/-- A task's state code: none 0, ISSUING 1, OPEN 2. -/
def taskStateCode : Option Task → Nat
  | none => 0
  | some k => if k.open_ then 2 else 1

/-- The run and task fields of a truck: the run's kind, source, target, remaining count and marks, the offer timer end, and the
task's pallet, state, target and deadline. -/
def TruckRec.workFields (r : TruckRec) : List Byte :=
  runFields r.run ++ u8 (Run.marks r.run) ++ timeField r.offerEnd ++ palletField (r.task.map Task.pallet) ++
    u8 (taskStateCode r.task) ++ targetField (r.task.map Task.target) ++ timeField (r.task.bind Task.deadline)

/-- The body of TruckReport. -/
def State.truckBody (s : State) (t : Nat) : List Byte :=
  let r := s.truck t
  u8 t ++ u8 r.state.code ++ timeField r.freeSince ++ locationField r.lastLoc ++ r.workFields ++
    flagByte (s.floor.overrun.get t)

/-- The plan in the buffer that a trailer was given, while it still has it: the LIVE plan while it is bound, the FROZEN plan once
it is DEPARTED (R178). -/
def State.planOf (s : State) (t : TrailerRec) : Option Plan :=
  match t.buffer with
  | none => none
  | some (d, b) => ((s.door d).buffer b).plan

/-- The plan summary of TrailerReport; without a plan every byte is 0xFF except those of W, M, WA, WB, A and K, which are 0. -/
def planSummary : Option Plan → List Byte
  | none => u8 0xFF ++ u8 0xFF ++ u16 0 ++ u32 0 ++ u16 0 ++ u16 0 ++ u16 0 ++ u16 0 ++ u8 0xFF ++ u8 0xFF ++ u8 0xFF
  | some p =>
    u8 p.drop.code ++ u8 p.openRow ++ u16 p.weight ++ u32 p.moment ++ u16 p.weightA ++ u16 p.weightB ++
      u16 p.axleLoad ++ u16 p.kingpinLoad ++ u8 p.reserved ++ u8 p.lost ++
      u8 ((p.sealResult.map SealResult.code).getD 0xFF)

/-- The fields of a trailer record, as TrailerReport and QueryTrailer give them. -/
def TrailerRec.recordFields (t : TrailerRec) : List Byte :=
  u16 t.fleet ++ u8 t.role.code ++ u8 t.state.code ++ u8 t.origin ++ u8 t.near ++ depotField t.far ++ u8 t.cls ++
    timeField (t.window.map Prod.fst) ++ timeField (t.window.map Prod.snd) ++ u24 t.tdep ++ u16 t.closingLead ++
    u16 t.switchLead ++ timeField t.gate ++ timeField t.dock ++ u8 t.lapses ++ u8 t.reportFlags ++ u16 t.expected ++
    u16 t.taken ++ u16 t.loaded ++ numberField t.door ++ numberField (t.buffer.map Prod.snd)

/-- The body of TrailerReport.
The loaded-tonight of a drop the trailer does not have, the far one absent or the near one of an INBOUND trailer, is 0: DESIGN
CHOICE (log entry 11). -/
def State.trailerBody (s : State) (t : TrailerRec) : List Byte :=
  t.recordFields ++ planSummary (s.planOf t) ++ u16 (s.depot t.near).loadedTonight ++
    u16 (s.depot (t.far.getD 0)).loadedTonight

/-- The overflow entry of the exception list (R163). -/
def ExcList.overflow (l : ExcList) : Option ExcEntry := l.entries.find? (fun e => e.kind == .listOverflow)

/-- The body of ExceptionNotice (R168).
The overflow count is 0 when no overflow entry stands: DESIGN CHOICE (log entry 11). -/
def ExcList.noticeBody (l : ExcList) : List Byte :=
  u8 l.entries.length ++ u8 l.ordinary ++ flagByte l.overflow.isSome ++ u8 ((l.overflow.map ExcEntry.count).getD 0) ++
    u16 l.changes

/-- The body of CensusRequest: the census lanes that are LOCKED and await a result (R178). -/
def State.censusBody (s : State) (g : Nat) : List Byte :=
  let r := s.group g
  let lanes := r.lanes.filter (fun l => (s.lane l).state == .locked)
  u8 g ++ u8 r.stage.code ++ u8 lanes.length ++ lanes.flatMap u8

/-- The report of a subject, composed from the state as it stands, with the notice its transmission's end gives (R178, R179). -/
def State.compose (s : State) (x : Subject) : Outgoing :=
  let report := fun kind body notice => ({ frame := { kind := kind, tag := 0, body := body }, notice := notice } : Outgoing)
  match x with
  | .phase => report 0xC0 s.phaseBody .none
  | .door d => report 0xC1 (s.doorBody d) .none
  | .lane l => report 0xC2 (s.laneBody l) .none
  | .truck t => report 0xC3 (s.truckBody t) (if s.floor.overrun.get t then .overrun t else .none)
  | .trailer f =>
    let t := (s.trailer? f).getD default
    report 0xC4 (s.trailerBody t) (if t.state = .departed then .departed f else .none)
  | .exceptions => report 0xC5 s.exceptions.noticeBody .none
  | .census g => report 0xC6 (s.censusBody g) .none

/-! ### The transmitter (R174, R177) -/

/-- The transmission of a reply begins: the slot empties, the link status byte is filled in, and the flags it carries are
cleared (R174, R177). -/
def Link.beginReply (l : Link) (r : Reply) : Link :=
  { l.clearCarried with
    slot := none
    sending := some { frame := { kind := r.kind, tag := r.tag,
                                 body := [BitVec.ofNat 8 r.result.code, l.statusByte] ++ r.fields }, notice := .none } }

/-- The transmitter, when no frame is being sent, chooses its next frame: the reply in the slot, else the head subject's report,
else none (R177).
It chooses at the end of a step: DEDUCED (log entry 21). -/
def State.chooseFrame (s : State) : State :=
  if s.link.sending.isSome then s
  else
    match s.link.slot, s.link.reports with
    | some r, _ => { s with link := s.link.beginReply r }
    | none, x :: rest => { s with link := { s.link with sending := some (s.compose x), reports := rest } }
    | none, [] => s

end Sys2Proof.Machine
end

