-- ==== Sys2Proof/Machine/Settle.lean ====
section
/-!
DEFINITION. What follows a command's or an event's own effect in the same step: trucks made FREE are put in order (R127), a
night with nothing left to drain ends (R11), pairings are made (R129), the floor transmitter looks whether it may key
(R156), and the station transmitter chooses a frame (R177). And how a command reaches the interpreter (R172, R173).
-/

namespace Sys2Proof.Machine

/-- What a meaning answers. -/
abbrev Out := Host.Outcome State Fault Refusal

/-! ### The floor transmitter (R156, R157) -/

/-- Whether KEY is up (§8.6). -/
def Floor.keyed (f : Floor) : Bool :=
  match f.tx with
  | .keying | .sending => true
  | _ => false

/-- KEY drops: the modem's CLR goes with its transmitter, and nothing of the burst is left.
DESIGN CHOICE (log entry 7). -/
def Floor.keyDown (f : Floor) (tx : TxState) (timer : Option Nat) : Floor :=
  { f with tx := tx, timer := timer, clr := false, leadIn := none, onAir := none, burst := 0 }

/-- The rate set governs both directions once the transmitter is QUIET, with KEY down, and no frame is being received (R149).
DESIGN CHOICE (log entry 7). -/
def Floor.applyRate (f : Floor) : Floor :=
  if f.tx = .quiet ∧ f.rx = [] then { f with rate := f.settings.rate } else f

/-- CLR taken in KEYING: the clear timer stops, the consecutive timeout count becomes 0, and the lead-in read at the key-up begins
(R149, R156, R157). -/
def Floor.startSending (f : Floor) : Floor :=
  { f with tx := .sending, timer := none, leadIn := some (f.leadIn.getD f.settings.leadIn), onAir := none, burst := 0, timeouts := 0 }

/-- Whether either queue holds a message. -/
def Floor.hasMessage (f : Floor) : Bool := !f.replies.isEmpty || !f.notices.isEmpty

/-- In QUIET, the transmitter keys when CD is clear and a message waits, and reads the clear timeout and the lead-in (R149); CLR
already asserted is taken at that moment (R156). A frame being received is broken off (R150). -/
def Floor.keyUp (f : Floor) : Floor :=
  if f.tx = .quiet ∧ f.cd = false ∧ f.hasMessage = true then
    let f := { f with
      tx := .keying, timer := some f.settings.clearTimeout, leadIn := some f.settings.leadIn, rx := [] }
    if f.clr then f.startSending else f
  else f

/-- The floor channel at the end of a step. -/
def State.floorReady (s : State) : State := { s with floor := s.floor.applyRate.keyUp }

/-! ### The end of a step -/

/-- Everything that follows in the same step, but for the station transmitter. `before` is the state the step began in.
DESIGN CHOICE (log entry 22). -/
def State.settle (before s : State) : State :=
  (State.endNightIfDrained before (s.orderNewFree before.sched.freeQueue)).pair.floorReady

/-- An event with effect `f`: nothing happens while the reset pin is held (R182). -/
def State.acts (s : State) (f : State → State) : State :=
  if s.startUp.resetHeld then s else (s.settle (f s)).chooseFrame

/-- An event whose effect touches none of what a night's end, a pairing or a key-up depends on. -/
def State.quietly (s : State) (f : State → State) : State :=
  if s.startUp.resetHeld then s else (f s).chooseFrame

/-- A time event: it acts when a tick has reached it and its owner still holds its time (R4), and nothing happens otherwise. -/
def State.timed (s : State) (e : TimeEvent) (f : State → State) : State :=
  if s.isDue e then s.acts (fun s => f (s.took e)) else s

/-! ### Commands (R172, R173) -/

/-- A rule's answer to a command: the state it leaves, the result, and the fields of the reply. -/
structure Answer where
  state  : State
  result : Result
  fields : List Byte

/-- A refusal: nothing changes, and the reply carries the fields given (R174). -/
def State.refuse (s : State) (r : Result) (fields : List Byte := []) : Answer := ⟨s, r, fields⟩

/-- An acceptance with result DONE. -/
def State.done (s : State) (fields : List Byte := []) : Answer := ⟨s, .done, fields⟩

/-- Whether the interpreter takes a frame at its arrival: the reply slot is empty and no other frame waits (R173). Between two
steps the queue holds a frame only while the slot is full. -/
def State.takesAtOnce (s : State) : Bool := s.link.slot.isNone && s.link.receive.isEmpty

/-- A frame has ended at the station receiver, which is out of frame (R171). -/
def State.frameEnds (s : State) : State := { s with link := { s.link with rx := [] } }

/-- A complete frame is offered to the receive queue: it joins at the tail, or is discarded with OVERRUN set when the queue holds
32 frames (R172). -/
def State.offerFrame (s : State) (f : Frame) : State :=
  if s.link.receive.length < Config.maxFrames then
    { s with link := { s.link with receive := s.link.receive ++ [f] } }
  else { s with link := { s.link with overrun := true } }

/-- The reply to a command of kind code `kind` fills the slot (R173, R174). -/
def Answer.reply (a : Answer) (kind : Nat) (tag : Byte) : State :=
  { a.state with link := { a.state.link with
      slot := some { kind := BitVec.ofNat 8 kind, tag := tag, result := a.result, fields := a.fields } } }

/-- A command of the depot computer, whose frame completes at this step: nothing is received while the reset pin is held (R182);
else the interpreter takes it at once and its reply, of kind code `kind`, fills the slot, or its frame is offered to the receive
queue (R172, R173).
DESIGN CHOICE (log entry 20). -/
def State.interpret (s : State) (c : Instr) (kind : Nat) (tag : Byte) (rule : State → Answer) : State :=
  if s.startUp.resetHeld then s
  else if s.takesAtOnce then ((rule s).reply kind tag).frameEnds.chooseFrame
  else
    match c.frame? with
    | some f => (s.offerFrame f).frameEnds
    | none => s

/-- Whether a result is an acceptance; a refused command changes nothing (R181). -/
def Result.accepts : Result → Bool
  | .done | .doneClamped => true
  | _ => false

/-- The rule `rule` with everything that follows an accepted command's effect in the same step. -/
def settling (rule : State → Answer) (s : State) : Answer :=
  let a := rule s
  if a.result.accepts then { a with state := s.settle a.state } else a

/-! ### Checks that many commands make first -/

/-- The survey check where no other check comes before it (R181).
Where the check stands among a rule's own: DEDUCED (log entry 9). -/
def State.unlessSurvey (s : State) (a : Answer) : Answer := if s.surveying then s.refuse .notNow else a

/-- The phase checks of R50: UNCONFIGURED first, then the survey. -/
def State.phaseChecked (s : State) (a : Answer) : Answer :=
  if s.started then s.unlessSurvey a else s.refuse .unconfigured

/-- The record a command about trailers names: a fleet number not in the pool, or naming a DEPARTED trailer, is UNKNOWN (R51). -/
def State.withTrailer (s : State) (fleet : Nat) (rule : TrailerRec → Answer) : Answer :=
  match s.trailer? fleet with
  | none => s.refuse .unknown
  | some t => if t.state = .departed then s.refuse .unknown else rule t

end Sys2Proof.Machine
end

