-- ==== Sys2Proof/Machine/Census.lean ====
section
/-!
DEFINITION. Censuses from start to end (R90 to R96), and the expiry of tasks (R144, R126).
-/

namespace Sys2Proof.Machine

/-! ### Start, due time and timeout -/

/-- A census of group `g` starts over the lanes given (R92).
The group's subject is marked before the lanes', and at the lock and the timeout after them; the lanes' runs end by ascending lane
and then truck: DESIGN CHOICE (log entry 25). -/
def State.startCensus (s : State) (g : Nat) (lanes : List Nat) : State :=
  let s := s.touchGroup g (fun r => { r with stage := .pending, lanes := lanes })
  let s := lanes.foldl (fun s l => s.touchLane l (fun r => { r with state := .pending })) s
  (lanes.foldl State.laneInCensus s).lockCheck g

/-- The due time of group `g` is reached (R90). -/
def State.censusDue (s : State) (g : Nat) : State :=
  let next := (s.group g).nextDue.map (fun t => (t + s.census.interval) % Config.daySeconds)
  let s := s.modGroup g (fun r => { r with nextDue := next })
  if (s.clock.phase = .intake ∨ s.clock.phase = .transfer) ∧ (s.group g).stage = .none then
    s.startCensus g (s.groupLanes g)
  else s

/-- The census of group `g` times out (R96). -/
def State.timeOutCensus (s : State) (g : Nat) : State :=
  if (s.group g).stage = .locked then
    let late := (s.group g).lanes.filter (fun l => (s.lane l).state == .locked)
    (late.foldl (fun s l => (s.reopen l (fun r => { r with unverified := true })).raise .censusTimeout (.lane l) g) s).endCensus g
  else s

/-! ### Reconcile (R94, R95) -/

/-- A list with each number at its first appearance only. -/
def firstOf : List Nat → List Nat
  | [] => []
  | a :: rest => a :: (firstOf rest).filter (· != a)

/-- Step 1 of a reconcile: the members of lane `l` that the list does not name become MISSING, last known there (R94).
In the order of the lane's contents, ascending in a bay: DESIGN CHOICE (log entry 25). -/
def State.removeUnlisted (s : State) (l : Nat) (ids : List Nat) : State :=
  ((s.lane l).contents.filter (fun p => !ids.contains p)).foldl (fun s p =>
    (s.touchLane l (fun r => r.leave p)).movePallet p (.missing (.lane l))) s

/-- Where a record joins lane `l`: HELD in a bay, STAGED in a depot lane (R38). -/
def State.standing (s : State) (l : Nat) : Whereabouts := if (s.lane l).fifo then .staged l else .held l

/-- Pallet `p` is moved into lane `l` from where its record stood (R94). -/
def State.moveIn (s : State) (l p : Nat) (from_ : Option Nat) : State :=
  let s := match from_ with
    | some m => s.touchLane m (fun r => r.leave p)
    | none => s
  (s.touchLane l (fun r => r.join p)).movePallet p (s.standing l)

/-- Step 2 of a reconcile for one listed pallet that is no member of lane `l`: the state, and whether it was moved in (R94). -/
def State.placeListed (s : State) (l p : Nat) : State × Bool :=
  if (s.lane l).level < (s.lane l).capacity then
    match (s.pallet? p).map PalletRec.place with
    | some (.staged m) | some (.held m) => (s.moveIn l p (some m), true)
    | some (.missing _) => (s.moveIn l p none, true)
    | _ => (s, false)
  else (s, false)

/-- Step 2 of a reconcile over the listed pallets: the state, and the numbers moved in and not placed. -/
def State.placeAll (l : Nat) : List Nat → State → State × Nat × Nat
  | [], s => (s, 0, 0)
  | p :: rest, s =>
    match s.placeListed l p with
    | (s, placed) =>
      match State.placeAll l rest s with
      | (s, moved, left) => if placed then (s, moved + 1, left) else (s, moved, left + 1)

/-- The numbers of a reconcile's reply. -/
structure Tally where
  kept    : Nat
  removed : Nat
  moved   : Nat
  left    : Nat
  deriving DecidableEq, Repr

/-- Reconcile the LOCKED lane `l` and reopen it (R94, R95).
The lane leaves its group's census: DEDUCED (log entry 15). -/
def State.reconcile (s : State) (l : Nat) (listed : List Nat) : State × Tally :=
  let ids := firstOf listed
  let members := (s.lane l).contents
  let head := members.head?
  let kept := (members.filter ids.contains).length
  let (s, moved, left) := State.placeAll l (ids.filter (fun p => !members.contains p)) (s.removeUnlisted l ids)
  let differences := (members.length - kept) + moved + left
  let s := s.reopen l (fun r =>
    { r with unverified := false, lastCensus := some s.now, stalled := if r.contents.head? = head then r.stalled else none })
  let s := if differences = 0 then s else s.raise .censusMismatch (.lane l) differences
  let g := s.groupOf l
  let s := s.touchGroup g (fun r => { r with lanes := r.lanes.filter (· != l) })
  (s.endCensusIfDone g, { kept := kept, removed := members.length - kept, moved := moved, left := left })

/-! ### A task that ends without a drop (R36, R126, R144) -/

/-- The reservation of a task is released: the place in its target lane, or its entry on the plan, whose seal check follows when
no reserved entry is left (R82, R114). -/
def State.releaseTarget (s : State) (k : Task) : State :=
  match k.target with
  | .lane l => s.unreserve l
  | .door d .. =>
    let s := s.modPlan d (fun p => p.release k.pallet)
    if ((s.livePlan d).map Plan.reserved).getD 0 = 0 then s.sealCheckDoor d else s

/-- The task of truck `t` is freed without a drop: its reservation is released, its pallet becomes MISSING, last known at the
truck, and its source and target have their notices (R36, R144). -/
def State.abandonTask (s : State) (t : Nat) (k : Task) : State :=
  let s := (s.releaseTarget k).landPallet k.pallet (.missing (.truck t))
  ((s.freeTask t).taskBack k.source).targetEnded k.target

/-- The OPEN task of truck `t` expires (R144). -/
def State.expire (s : State) (t : Nat) : State :=
  match (s.truck t).task with
  | none => s
  | some k => ((s.abandonTask t k).endRun t true .absent).raise .taskExpired (.truck t) k.pallet

end Sys2Proof.Machine
end

