-- ==== Sys2Proof/Machine/Messages.lean ====
section
/-!
DEFINITION. The messages of the lift-truck terminals (chapter 7, §8.3): logging on and off, breaks, offers answered, and the
ends of runs; takes and drops stand in Takes and Drops.
-/

namespace Sys2Proof.Machine

/-! ### Passing messages in (R123, R150, R151) -/

/-- Whether a message of truck `t` is received: the receiver discards what arrives while KEY is up (R150), and nothing is received
while the reset pin is held (R182).
DESIGN CHOICE (log entry 6). -/
def State.hears (s : State) (t : Nat) : Bool := decide (t < 32) && !s.floor.keyed && !s.startUp.resetHeld

/-- A floor frame has ended, received or discarded: the receiver is out of frame (R150), and a rate set that waited for it is in
use once the transmitter is QUIET (R149). -/
def State.outOfFrame (s : State) : State := { s with floor := Floor.applyRate { s.floor with rx := [] } }

/-- The arrival of a terminal's message, at its frame's last byte (R150), with what becomes of it. -/
def State.received (s : State) (t : Nat) (f : State → State) : State := if s.hears t then f s.outOfFrame else s

/-- An ABSENT truck returns to FREE at its first message (R123). -/
def State.wake (s : State) (t : Nat) : State := if (s.truck t).state = .absent then s.joinFree t else s

/-- A message that needs no reply, handed to the scheduler: one of an OFF truck is ignored (R123, R151). -/
def State.heard (s : State) (t : Nat) (f : State → State) : State :=
  if s.hears t = true ∧ (s.truck t).state ≠ .off then s.acts (fun s => f (s.wake t)) else s

/-- A message that needs a reply: it is discarded, and the truck's overrun flag set, when every slot is taken (R151).
An OFF truck's message is discarded the same way: DEDUCED (log entry 6). -/
def State.asked (s : State) (t : Nat) (f : State → State) : State :=
  if s.hears t then
    if s.replySlotFree then f s
    else s.quietly (·.setOverrun t)
  else s

/-! ### Logon, Logoff, Break and Resume (R124 to R126) -/

/-- Logon (R124). -/
def State.logonOf (s : State) (t : Nat) : State :=
  let s := s.wake t
  match (s.truck t).state with
  | .off =>
    if s.started = true ∧ s.surveying = false then
      ((s.joinFree t).touchTruck t (fun r => { r with lastLoc := none })).answer t (.logonAck (some .free) none none)
    else s.answer t (.logonAck none none none)
  | st => s.answer t (.logonAck (some st) (s.truck t).run (s.truck t).task)

/-- Logon received (R124, R151). -/
def State.logon (s : State) (t : Nat) : State := s.received t (·.asked t (·.acts (·.logonOf t)))

/-- LOGON (R124, R151). -/
def execLogon (t : Nat) (s : State) : Out := .next (s.logon t)

/-- Logoff from a truck that is not OFF (R126). -/
def State.logoffOf (s : State) (t : Nat) : State :=
  let task := (s.truck t).task
  let s := match task with
    | some k => s.abandonTask t k
    | none => s
  let run := (s.truck t).run
  let s := ((s.leaveFree t).touchTruck t (fun _ => TruckRec.reset)).releaseRunLane t run
  let s := s.clearTruckQueues t
  match task with
  | some k => s.raise .taskExpired (.truck t) k.pallet
  | none => s

/-- Logoff received (R126). -/
def State.logoff (s : State) (t : Nat) : State := s.received t (·.heard t (·.logoffOf t))

/-- LOGOFF (R126). -/
def execLogoff (t : Nat) (s : State) : Out := .next (s.logoff t)

/-- Break (R125). -/
def State.breakOf (s : State) (t : Nat) : State :=
  match (s.truck t).state with
  | .free => (s.leaveFree t).touchTruck t (fun r => { r with state := .onBreak, freeSince := none })
  | .offered => s.withdraw t true
  | .onRun =>
    (s.touchTruck t (fun r => { r with run := r.run.map (fun run => { run with breakMark := true }) })).closeRun t
  | _ => s

/-- Break received (R125). -/
def State.takeBreak (s : State) (t : Nat) : State := s.received t (·.heard t (·.breakOf t))

/-- BREAK (R125). -/
def execBreak (t : Nat) (s : State) : Out := .next (s.takeBreak t)

/-- Resume (R125). -/
def State.resumeOf (s : State) (t : Nat) : State :=
  match (s.truck t).state with
  | .onBreak => s.joinFree t
  | .onRun => s.touchTruck t (fun r => { r with run := r.run.map (fun run => { run with breakMark := false }) })
  | _ => s

/-- Resume received (R125). -/
def State.resume (s : State) (t : Nat) : State := s.received t (·.heard t (·.resumeOf t))

/-- RESUME (R125). -/
def execResume (t : Nat) (s : State) : Out := .next (s.resume t)

/-! ### Accept and Decline (R132) -/

/-- The claim request for a LOAD run (R85): the head pallet and the state with the claim, when it is granted. -/
def State.requestClaim (s : State) (t l d : Nat) : Option (Nat × State) :=
  if (s.lane l).fifo = true ∧ (s.lane l).grantsClaim t ((s.door d).bound.getD 0) = true then
    (s.lane l).contents.head?.map (fun p => (p, s.claimHead l t))
  else none

/-- The head that truck `t` holds the claim of, for a run-start DropOk that is repeated (R132). -/
def State.claimedHead (s : State) (t : Nat) (run : Run) : Option Nat :=
  match run.kind, run.source with
  | .load, .lane l => if (s.lane l).claim = some t then (s.lane l).contents.head? else none
  | _, _ => none

/-- An OFFERED truck's Accept (R132). -/
def State.acceptOffer (s : State) (t : Nat) (run : Run) : State :=
  let s := (s.dropOffer t).touchTruck t (fun r => { r with state := .onRun, offerEnd := none })
  match run.kind, run.source, run.target with
  | .load, .lane l, some d =>
    match s.requestClaim t l d with
    | some (p, s) => s.answer t (.dropOk true run.remaining (some p))
    | none => (s.answer t (.dropOk true 0 none)).endRun t true .freeOrBreak
  | _, _, _ => s.answer t (.dropOk true run.remaining none)

/-- Accept, from a truck that is not OFF (R132). -/
def State.acceptOf (s : State) (t : Nat) : State :=
  match (s.truck t).state, (s.truck t).run with
  | .offered, some run => s.acceptOffer t run
  | .onRun, some run => s.answer t (.dropOk true run.remaining (s.claimedHead t run))
  | _, _ => s.answer t (.tooLate 0 false)

/-- Accept received (R132, R151). -/
def State.accept (s : State) (t : Nat) : State := s.received t (·.asked t (·.heard t (·.acceptOf t)))

/-- ACCEPT (R132, R151). -/
def execAccept (t : Nat) (s : State) : Out := .next (s.accept t)

/-- Decline: an OFFERED truck's offer ends and it becomes FREE at the tail; from any other truck it changes nothing (R132). -/
def State.declineOf (s : State) (t : Nat) : State :=
  if (s.truck t).state = .offered then ((s.dropOffer t).endOffer t).joinFree t else s

/-- Decline received (R132). -/
def State.decline (s : State) (t : Nat) : State := s.received t (·.heard t (·.declineOf t))

/-- DECLINE (R132). -/
def execDecline (t : Nat) (s : State) : Out := .next (s.decline t)

/-! ### RunEnd and EmptyTrailer (R134, R137) -/

/-- RunEnd received: it withdraws an offer, ends or closes a run, and changes nothing else (R134). -/
def State.runEnd (s : State) (t : Nat) : State := s.received t (·.heard t (·.stopRun t))

/-- RUN_END (R134). -/
def execRunEnd (t : Nat) (s : State) : Out := .next (s.runEnd t)

/-- EmptyTrailer: from an ON_RUN truck on an UNLOAD run it ends the unloading of the run's door, and from any other truck it is
discarded (R63, R137). -/
def State.emptyTrailerOf (s : State) (t : Nat) : State :=
  match (s.truck t).state, (s.truck t).run with
  | .onRun, some { kind := .unload, source := .door d, .. } =>
    match s.boundAt d with
    | some trailer => s.endUnloading trailer.fleet
    | none => s
  | _, _ => s

/-- EmptyTrailer received (R63, R137). -/
def State.emptyTrailer (s : State) (t : Nat) : State := s.received t (·.heard t (·.emptyTrailerOf t))

/-- EMPTY_TRAILER (R63, R137). -/
def execEmptyTrailer (t : Nat) (s : State) : Out := .next (s.emptyTrailer t)

end Sys2Proof.Machine
end

