-- ==== Sys2Proof/Machine/Takes.lean ====
section
/-!
DEFINITION. Takes (§7.8): the driver's scan of a pallet being lifted.
-/

namespace Sys2Proof.Machine

/-- An accepted Take (R136): the record becomes MOVING, the task is created ISSUING, the remaining count falls by one, and the
DropInstruct is handed over. The target is already reserved, and a lane source already rid of the pallet. -/
def State.acceptTake (s : State) (t : Nat) (run : Run) (p : Nat) (target : Target) : State :=
  let task : Task :=
    { pallet := p, kind := run.kind, source := run.source, target := target, open_ := false, deadline := none,
      first := !run.begun }
  ((s.movePallet p (.moving t)).touchTruck t (fun r =>
    { r with task := some task,
             run := r.run.map (fun x => { x with remaining := x.remaining - 1, begun := true }) })).instruct t p target

/-- A pallet goes from the manifest of trailer `from_` to that of trailer `trailer`, the MISMANIFEST case (R34, R53). -/
def State.remanifest (s : State) (p from_ : Nat) (trailer : TrailerRec) : State :=
  let s := s.modPallet p (fun r => { r with inbound := some trailer.fleet, origin := trailer.origin })
  (s.touchTrailer from_ (fun t => { t with expected := lowerCount t.expected })).raiseExpected trailer.fleet 1

/-- A Take, on an UNLOAD run at a door whose trailer is `trailer`, of a pallet EXPECTED on trailer `from_` (R137). -/
def State.takeExpected (s : State) (t : Nat) (run : Run) (trailer : TrailerRec) (r : PalletRec) (from_ : Nat) : State :=
  match s.decideTarget r none with
  | (none, s) => s.answer t (.refused r.id .noPlace)
  | (some target, s) =>
    let s := if from_ = trailer.fleet then s else s.remanifest r.id from_ trailer
    let s := (s.acceptTake t run r.id target).raiseTaken trailer.fleet
    if from_ = trailer.fleet then s else s.raise .mismanifest (.pallet r.id) from_

/-- A Take of a pallet without a record, whose label fields are carried (R33, R137). -/
def State.takeUnknown (s : State) (t : Nat) (run : Run) (trailer : TrailerRec) (p : Nat) (l : Label) : State :=
  if Config.maxPallets ≤ s.pallets.length then
    (s.raise .tableFull .none p).answer t (.refused p .tableFull)
  else
    let record := fun place => labelRecord l p trailer.origin (s.resolve l.route).dest trailer.fleet place
    match (s.raiseLabel p l).decideTarget (record (.expected trailer.fleet)) none with
    | (none, s) =>
      ((s.createPallet (record (.expected trailer.fleet))).raiseExpected trailer.fleet 1).answer t (.refused p .noPlace)
    | (some target, s) =>
      ((s.createPallet (record (.moving t))).acceptTake t run p target).raiseTaken trailer.fleet

/-- A Take on an UNLOAD run at a door whose trailer is `trailer` (R137). -/
def State.takeUnload (s : State) (t : Nat) (run : Run) (trailer : TrailerRec) (p : Nat) (label : Option Label) : State :=
  match s.pallet? p, label with
  | some r, _ =>
    match r.place with
    | .expected f => s.takeExpected t run trailer r f
    | _ => (s.raise .duplicateLabel (.pallet p) r.place.state.code).answer t (.refused p .duplicateLabel)
  | none, some l =>
    if p ≠ 0 ∧ labelValid l = true then s.takeUnknown t run trailer p l else s.answer t (.refused p .unknown)
  | none, none => s.answer t (.refused p .unknown)

/-- The claimed head is refused by the planner (R139): the stall mark is set for a reason that does not close the trailer, the
claim is released, and the run ends at once. -/
def State.headRefused (s : State) (t l d p : Nat) (reason : Reason) : State :=
  let s := s.answer t (.refused p reason)
  let s := if reason.closes then s.placementRefused d reason else s.stall l ((s.door d).bound.getD 0)
  s.endRun t true .freeOrBreak

/-- A Take on a LOAD run from lane `l` to door `d` (R139).
What no rule answers by another reason is WRONG_PALLET: DEDUCED (log entry 23). -/
def State.takeLoad (s : State) (t : Nat) (run : Run) (l d p : Nat) : State :=
  let lane := s.lane l
  match s.pallet? p with
  | some r =>
    if lane.state = .open_ ∧ lane.claim = some t ∧ lane.contents.head? = some p then
      match s.requestPlace d r false with
      | .placed plan at_ =>
        ((s.modPlan d (fun _ => plan)).headTake l p).acceptTake t run p (.door d at_.row at_.side at_.tier)
      | .refused reason => s.headRefused t l d p reason
    else s.answer t (.refused p .wrongPallet)
  | none => s.answer t (.refused p .wrongPallet)

/-- A Take on a RELOCATE run from bay `b` (R140). A bay take is granted from a bay only (R87): lane `b` may have been emptied by
another lane's census and rebound while the run stood.
What no rule answers by another reason is WRONG_PALLET: DEDUCED (log entry 23). -/
def State.takeReloc (s : State) (t : Nat) (run : Run) (b p : Nat) : State :=
  match s.pallet? p with
  | some r =>
    if (s.lane b).binding = .hold ∧ (s.lane b).state = .open_ ∧ (s.lane b).contents.contains p = true ∧ r.place = .staged b then
      match s.decideTarget r none with
      | (some target, s) => (s.bayTake b p).acceptTake t run p target
      | (none, s) => s.answer t (.refused p .noPlace)
    else s.answer t (.refused p .wrongPallet)
  | none => s.answer t (.refused p .wrongPallet)

/-- A Take of an ON_RUN truck that holds no task, by the rule for its run's kind (R136). -/
def State.takeOnRun (s : State) (t : Nat) (run : Run) (p : Nat) (label : Option Label) : State :=
  match run.kind, run.source, run.target with
  | .unload, .door d, _ =>
    match s.boundAt d with
    | some trailer => s.takeUnload t run trailer p label
    | none => s.answer t (.refused p .unknown)
  | .load, .lane l, some d => s.takeLoad t run l d p
  | .reloc, .lane b, _ => s.takeReloc t run b p
  | _, _, _ => s.answer t (.refused p .unknown)

/-- Take, from a truck that is not OFF (R136). -/
def State.takeOf (s : State) (t p : Nat) (label : Option Label) : State :=
  let r := s.truck t
  match r.state, r.run with
  | .onRun, some run =>
    if r.task.isSome then s.answer t (.refused p .taskOpen) else s.takeOnRun t run p label
  | _, _ => s.answer t (.refused p .notOnRun)

/-- Take received (R136, R151). -/
def State.take (s : State) (t p : Nat) (label : Option Label) : State :=
  s.received t (·.asked t (·.heard t (·.takeOf t p label)))

/-- TAKE (R136, R151). -/
def execTake (t p : Nat) (label : Option Label) (s : State) : Out := .next (s.take t p label)

end Sys2Proof.Machine
end

