-- ==== Sys2Proof/Machine/Drops.lean ====
section
/-!
DEFINITION. Drops (§7.10) and late recovery (§7.11): the driver's scan of a pallet being set down.
-/

namespace Sys2Proof.Machine

/-- The record's location after a drop of a task of kind `kind` at its target (R35).
A relocated pallet set down in a bay: DEDUCED (log entry 17). -/
def State.dropped (s : State) (kind : RunKind) : Target → Whereabouts
  | .lane l => if (s.lane l).fifo = true ∨ kind = .reloc then .staged l else .held l
  | .door d row side tier => .loaded ((s.door d).bound.getD 0) row side.code tier

/-- The target's owner confirms the drop (R82, R113, R53). -/
def State.confirmTarget (s : State) (k : Task) : State :=
  match k.target with
  | .lane l => s.confirmDrop l k.pallet
  | .door d .. => (s.modPlan d (fun p => p.confirm k.pallet)).raiseLoaded d

/-- The state with the drop of truck `t`'s task made, its run not yet looked at (R142). -/
def State.completeTask (s : State) (t : Nat) (k : Task) : State :=
  let s := (s.confirmTarget k).landPallet k.pallet (s.dropped k.kind k.target)
  let s := ((s.freeTask t).taskBack k.source).targetEnded k.target
  s.touchTruck t (fun r => { r with lastLoc := some k.target.location })

/-- Whether the run of truck `t` goes on after a drop: the claimed head and the state with the new claim, if it does (R142). -/
def State.continueRun (s : State) (t : Nat) (run : Run) : Option (Option Nat × State) :=
  if run.closing = true ∨ run.remaining = 0 then none
  else
    match run.kind, run.source, run.target with
    | .load, .lane l, some d =>
      let current := ((s.livePlan d).map Plan.current).getD 0
      if ((s.boundAt d).map (fun t => t.state == .loading)).getD false = true ∧ l ∈ (s.depot current).group then
        (s.requestClaim t l d).map (fun x => (some x.1, x.2))
      else none
    | .reloc, .lane b, _ => if s.relocates b (some t) then some (none, s) else none
    | _, _, _ => some (none, s)

/-- A Drop of the truck's own task at its target (R142). -/
def State.completeDrop (s : State) (t : Nat) (k : Task) : State :=
  let s := s.completeTask t k
  match (s.truck t).run with
  | none => s.answer t (.dropOk false 0 none)
  | some run =>
    match s.continueRun t run with
    | some (head, s) => s.answer t (.dropOk false run.remaining head)
    | none => (s.answer t (.dropOk false 0 none)).endRun t true .freeOrBreak

/-- The detail of LATE_RECOVERY (R145). -/
def recoveryDetail (recovered : Bool) (at_ : Location) : Nat :=
  (if recovered then 65536 else 0) + (match at_ with | .door d => d | .lane l => 256 + l)

/-- A recovery at the location scanned, if it is granted (R83, R112, R145); a refused recovery placement may close the trailer. -/
def State.recover (s : State) (r : PalletRec) (at_ : Location) : Bool × State :=
  match at_ with
  | .lane l =>
    if (s.lane l).takesRecovery r.dest then (true, (s.recoverAppend l r.id).movePallet r.id (s.standing l)) else (false, s)
  | .door d =>
    match s.boundAt d with
    | some { state := .loading, fleet := f, .. } =>
      match s.requestPlace d r true with
      | .placed plan p =>
        (true, ((s.modPlan d (fun _ => plan)).movePallet r.id (.loaded f p.row p.side.code p.tier)).raiseLoaded d)
      | .refused reason => (false, s.placementRefused d reason)
    | _ => (false, s)

/-- A late recovery (R145). -/
def State.lateRecovery (s : State) (t : Nat) (r : PalletRec) (at_ : Location) : State :=
  match s.recover r at_ with
  | (recovered, s) =>
    let s := if recovered then s.touchTruck t (fun x => { x with lastLoc := some at_ }) else s
    (s.answer t (.tooLate r.id recovered)).raise .lateRecovery (.pallet r.id) (recoveryDetail recovered at_)

/-- A Drop other than that of the truck's own task's pallet (R143). -/
def State.otherDrop (s : State) (t p : Nat) (at_ : Location) : State :=
  match s.pallet? p with
  | none => s.answer t (.refused p .unknown)
  | some r =>
    if r.place = .missing (.truck t) then s.lateRecovery t r at_ else s.answer t (.tooLate p false)

/-- Drop, from a truck that is not OFF (R142, R143). -/
def State.dropOf (s : State) (t p : Nat) (at_ : Location) : State :=
  match (s.truck t).task with
  | some k =>
    if k.pallet = p then
      if k.target.location = at_ then s.completeDrop t k else s.answer t (.wrongDrop p k.target)
    else s.otherDrop t p at_
  | none => s.otherDrop t p at_

/-- Whether a location names a door or a lane that exists (§8.5). -/
def Location.exists_ : Location → Bool
  | .door d => decide (d < 48)
  | .lane l => decide (l < 96)

/-- Drop received (R142, R143, R151); a body whose location names no door and no lane does not fit its kind, and its frame is
discarded (§8.5). -/
def State.drop (s : State) (t p : Nat) (at_ : Location) : State :=
  s.received t (fun s => if Location.exists_ at_ then s.asked t (·.heard t (·.dropOf t p at_)) else s)

/-- DROP (R142, R143, R151). -/
def execDrop (t p : Nat) (at_ : Location) (s : State) : Out := .next (s.drop t p at_)

end Sys2Proof.Machine
end

