-- ==== Sys2Proof/Machine/Transmitter.lean ====
section
/-!
DEFINITION. The floor channel's line events (chapter 8): the bytes received, CLR, CD, the timers, the lead-in, and frames sent.
-/

namespace Sys2Proof.Machine

/-! ### The receiver (R150) -/

/-- A received message is given to its rule (R151, §8.5). -/
def State.message (s : State) (c : Instr) : State :=
  match c with
  | .logon t => s.logon t
  | .logoff t => s.logoff t
  | .takeBreak t => s.takeBreak t
  | .resume t => s.resume t
  | .accept t => s.accept t
  | .decline t => s.decline t
  | .take t p l => s.take t p l
  | .drop t p x => s.drop t p x
  | .runEnd t => s.runEnd t
  | .emptyTrailer t => s.emptyTrailer t
  | _ => s

/-- How the bytes gathered from a start byte on stand (R150). -/
inductive FloorFrame where
  /-- Bytes of the frame are still to come. -/
  | open_
  /-- The address exceeds 31 or the length 64, found as that byte arrives. -/
  | bad
  /-- The last CRC byte is there. -/
  | whole
  deriving DecidableEq, Repr

/-- How bytes gathered stand, from the start byte on (R150). -/
def floorFrame : List Byte → FloorFrame
  | [_, address] => if 31 < address.toNat then .bad else .open_
  | _ :: _ :: _ :: n :: rest =>
    if 64 < n.toNat then .bad else if n.toNat + 2 ≤ rest.length then .whole else .open_
  | _ => .open_

/-- One byte of FRX (R150). With KEY up it is discarded, and out of frame every byte but the start byte is; a bad address or length
ends the frame at once, and the last CRC byte ends it with its message, when every check passes, given to its rule. -/
def State.floorByte (s : State) (b : Byte) : State :=
  if s.floor.keyed || s.startUp.resetHeld || (s.floor.rx.isEmpty && b != 0xC3#8) then s
  else
    let bytes := s.floor.rx ++ [b]
    match floorFrame bytes with
    | .open_ => { s with floor := { s.floor with rx := bytes } }
    | .bad => s.outOfFrame
    | .whole =>
      match floorReceive bytes with
      | some c => s.message c
      | none => s.outOfFrame

/-- FLOOR_FRAME_DISCARDED: the bytes given arrive at the receiver. A discarded frame has no effect and no answer (R150). -/
def execFloorFrameDiscarded (bytes : List Byte) (s : State) : Out := .next (bytes.foldl State.floorByte s)

/-- FLOOR_BYTE_GAP_TIMEOUT: the frame being received is discarded, with no effect and no answer (R150). -/
def execFloorByteGapTimeout (s : State) : Out :=
  .next (if s.startUp.resetHeld || s.floor.rx.isEmpty then s else s.outOfFrame)

/-! ### The modem's lines and the timers (R156 to R158) -/

/-- A change of the level of one of the modem's lines, with what the transmitter makes of it; while the reset pin is held the level
alone changes (R182).
DESIGN CHOICE (log entry 7). -/
def State.lineActs (s : State) (level f : Floor → Floor) : State :=
  if s.startUp.resetHeld then { s with floor := level s.floor } else s.acts (fun s => { s with floor := f s.floor })

/-- CLR asserted (R156): it is taken in KEYING; while the transmitter is QUIET or in GUARD it stands asserted for the next key-up;
in the other states it is not acted on.
DESIGN CHOICE (log entry 7). -/
def Floor.clrAsserted (f : Floor) : Floor :=
  match f.tx with
  | .keying => { f.startSending with clr := true }
  | .quiet | .guard => { f with clr := true }
  | _ => f

/-- CLR_ASSERTED (R156). -/
def execClrAsserted (s : State) : Out := .next (s.lineActs (fun f => { f with clr := true }) Floor.clrAsserted)

/-- CD asserted (R156): in KEYING, KEY drops and the transmitter yields, the guard time being read at this unkeying (R149); in every
other state only the level changes. -/
def Floor.cdAsserted (f : Floor) : Floor :=
  let f := { f with cd := true }
  match f.tx with
  | .keying => { f.keyDown .yielded none with guard := some f.settings.guardTime }
  | _ => f

/-- CD_ASSERTED (R156). -/
def execCdAsserted (s : State) : Out := .next (s.lineActs (fun f => { f with cd := true }) Floor.cdAsserted)

/-- CD clears (R156): in YIELDED the guard time read at the yield starts (R149). -/
def Floor.cdClears (f : Floor) : Floor :=
  let f := { f with cd := false }
  match f.tx with
  | .yielded => { f with tx := .guard, timer := some (f.guard.getD f.settings.guardTime), guard := none }
  | _ => f

/-- CD_CLEARS (R156). -/
def execCdClears (s : State) : Out := .next (s.lineActs (fun f => { f with cd := false }) Floor.cdClears)

/-- The clear timer expires in KEYING: a clear timeout (R158). -/
def State.clearTimeout (s : State) : State :=
  if s.floor.tx = .keying then
    let n := min 255 (s.floor.timeouts + 1)
    State.raise { s with floor := { s.floor.keyDown .holdoff (some Config.holdoffMs) with timeouts := n } } .channelFault .none n
  else s

/-- CLEAR_TIMER_EXPIRY (R158).
The millisecond timers end when their event comes: DESIGN CHOICE (log entry 5). -/
def execClearTimerExpiry (s : State) : Out := .next (s.acts State.clearTimeout)

/-- A wait in state `tx` ends and the transmitter becomes QUIET (R157, R158). -/
def Floor.waitEnds (f : Floor) (tx : TxState) : Floor :=
  if f.tx = tx then { f with tx := .quiet, timer := none } else f

/-- HOLDOFF_END (R158). -/
def execHoldoffEnd (s : State) : Out := .next (s.acts (fun s => { s with floor := s.floor.waitEnds .holdoff }))

/-- GUARD_TIME_END (R157). -/
def execGuardTimeEnd (s : State) : Out := .next (s.acts (fun s => { s with floor := s.floor.waitEnds .guard }))

/-! ### Sending (R157, R159) -/

/-- The byte of which the lead-in consists (R157). -/
def leadInByte : Byte := 0x55#8

/-- The bytes on FTX (R150, R155, R157): in SENDING the lead-in, and after it the frame of the message on the air, addressed to its
truck; none while nothing is sent. -/
def Floor.wire (f : Floor) : List Byte :=
  if f.tx = .sending then
    match f.leadIn, f.onAir with
    | some n, _ => List.replicate n leadInByte
    | none, some (t, msg) => floorBytes (BitVec.ofNat 8 t) (BitVec.ofNat 8 msg.kind) msg.body
    | none, none => []
  else []

/-- The first entry of a queue goes on the air. -/
def airHead : List Waiting → List Waiting
  | [] => []
  | w :: rest => { w with onAir := true } :: rest

/-- Before each frame: the oldest reply, or the oldest notice when no reply waits; the burst ends at the burst limit and when both
queues are empty (R157). -/
def Floor.chooseMessage (f : Floor) : Floor :=
  if f.settings.burstLimit ≤ f.burst then f.keyDown .guard (some f.settings.guardTime)
  else
    match f.replies, f.notices with
    | w :: _, _ => { f with onAir := some (w.truck, w.msg), replies := airHead f.replies }
    | [], w :: _ => { f with onAir := some (w.truck, w.msg), notices := airHead f.notices }
    | [], [] => f.keyDown .guard (some f.settings.guardTime)

/-- LEAD_IN_SENT: the lead-in bytes have been sent, and the first frame is chosen (R157). -/
def execLeadInSent (s : State) : Out :=
  .next (s.acts (fun s =>
    if s.floor.tx = .sending ∧ s.floor.leadIn.isSome = true then
      { s with floor := Floor.chooseMessage { s.floor with leadIn := none } }
    else s))

/-- A RunOffer is reported sent: the offer timer starts, when the truck is still OFFERED for that run (R131, R159). -/
def State.offerSent (s : State) (t : Nat) (run : Run) : State :=
  if (s.truck t).state = .offered ∧ (s.truck t).run = some run then
    s.touchTruck t (fun r => { r with offerEnd := some (s.later s.sched.settings.offerTime) })
  else s

/-- The time from a DropInstruct's sending to its task's deadline: the base time, with the changeover allowance for a first task
whose source differs from the truck's last location (R141). -/
def taskTime (d : DispatchSettings) (k : Task) (last : Option Location) : Nat :=
  baseTime d k + (if k.first = true ∧ some k.source ≠ last then d.changeover else 0)

/-- The DropInstruct of truck `t`'s task is reported sent: an ISSUING task becomes OPEN (R141, R159). -/
def State.instructSent (s : State) (t : Nat) : State :=
  match (s.truck t).task with
  | some k =>
    if k.open_ then s
    else
      s.touchTruck t (fun r => { r with task := some { k with
        open_ := true, deadline := some (s.later (taskTime s.sched.settings k r.lastLoc)) } })
  | none => s

/-- What a message's sent event reports (R159). -/
def State.reportSent (s : State) (w : Waiting) : State :=
  match w.msg with
  | .runOffer run => s.offerSent w.truck run
  | .dropInstruct .. => if w.opens then s.instructSent w.truck else s
  | _ => s

/-- The end of a floor frame (R157, R159): the message leaves its queue if it still stands there, its sending is reported, and the
next frame is chosen.
A message taken back while its frame is on the air is sent and not reported: DEDUCED (log entry 8). The next frame is chosen before
the pairing that this step makes possible: DESIGN CHOICE (log entry 22). -/
def State.frameSent (s : State) : State :=
  if s.floor.tx = .sending ∧ s.floor.onAir.isSome = true then
    let sent := (s.floor.replies ++ s.floor.notices).find? Waiting.onAir
    let s := { s with floor := { s.floor with
      onAir := none, burst := s.floor.burst + 1,
      replies := s.floor.replies.filter (fun w => !w.onAir), notices := s.floor.notices.filter (fun w => !w.onAir) } }
    let s := match sent with
      | some w => s.reportSent w
      | none => s
    { s with floor := s.floor.chooseMessage }
  else s

/-- FLOOR_FRAME_SENT (R157, R159). -/
def execFloorFrameSent (s : State) : Out := .next (s.acts State.frameSent)

end Sys2Proof.Machine
end

