-- ==== Sys2Proof/Machine/StationLine.lean ====
section
/-!
DEFINITION. The station link's line events (chapter 10): bytes received, the byte gap, and the notices of a frame's end.
-/

namespace Sys2Proof.Machine

/-- The FRAME_DISCARDED flag is set (R171). -/
def State.discard (s : State) : State := { s with link := { s.link with discarded := true } }

/-- One byte at the station receiver (R171): out of frame every byte but the start byte is discarded; a length over 1020, found at
the second length byte, and a CRC that does not check discard the frame; a complete frame is offered to the receive queue. -/
def State.stationByte (s : State) (b : Byte) : State :=
  if s.startUp.resetHeld || (s.link.rx.isEmpty && b != 0xA5#8) then s
  else
    let bytes := s.link.rx ++ [b]
    match gather bytes with
    | .frame f => s.frameEnds.offerFrame f
    | .overLong | .badCrc => s.frameEnds.discard
    | .other => { s with link := { s.link with rx := bytes } }

/-- The gap limit in REFCLK periods: the divisor in force divided by 20, rounded down (R170).
A divisor that SetTiming has just set is in force for it at once, before the next second begins: DESIGN CHOICE (log entry 30).
The gap itself is the event's operand: DESIGN CHOICE (log entry 5). -/
def State.gapLimit (s : State) : Nat := s.clock.divisor / 20

/-- STATION_BYTE_GAP_TIMEOUT: two successive bytes of a frame came further apart than the gap limit (R170, R171); out of frame there
is no such gap. -/
def execStationByteGapTimeout (gap : Nat) (s : State) : Out :=
  .next (if s.startUp.resetHeld || s.link.rx.isEmpty || decide (gap ≤ s.gapLimit) then s else s.frameEnds.discard)

/-- Whether a record is LOADED on trailer `fleet`. -/
def Whereabouts.loadedOn (fleet : Nat) : Whereabouts → Bool
  | .loaded f .. => f == fleet
  | _ => false

/-- The departed trailer's report has been transmitted: its record and the records LOADED on it are freed (R72). -/
def State.freeDeparted (s : State) (fleet : Nat) : State :=
  if s.trailerIs fleet .departed then
    ((s.palletsAt (Whereabouts.loadedOn fleet)).foldl State.freePallet s).freeTrailer fleet
  else s

/-- The notice that the end of a frame's transmission gives (R179). -/
def State.sentNotice (s : State) : SentNotice → State
  | .none => s
  | .departed fleet => s.freeDeparted fleet
  | .overrun t => { s with floor := { s.floor with overrun := s.floor.overrun.set t false } }

end Sys2Proof.Machine
end

