-- ==== Sys2Proof/Machine/ConfigCommands.lean ====
section
/-!
DEFINITION. The commands that set the clock, the night, the phase and configuration (chapters 1, 2, 4 to 8).
-/

namespace Sys2Proof.Machine

/-! ### Clock, night and phase (chapter 1) -/

/-- The rule of SetClock (R3).
The second that begins has the divisor in force: DEDUCED (log entry 3). -/
def State.setClock (s : State) (time : Nat) : Answer :=
  if Config.daySeconds ≤ time then s.refuse .badValue
  else if s.surveying = true ∨ s.inNight = true then s.refuse .notNow
  else
    (State.mark { s with clock := { s.clock with
      second := time, sub := 0, secondDivisor := s.clock.divisor, valid := true } } .phase).done

/-- SET_CLOCK (R3). -/
def execSetClock (tag : Byte) (time : Nat) (s : State) : Out :=
  .next (s.interpret (.setClock tag time) 0x82 tag (·.setClock time))

/-- Whether four times of day make a night: each in range, their offsets from the first rising strictly (R6). -/
def nightTimes (topen ttransfer tclose tend : Nat) : Bool :=
  decide (topen < Config.daySeconds ∧ ttransfer < Config.daySeconds ∧ tclose < Config.daySeconds ∧
    tend < Config.daySeconds ∧ 0 < offsetFrom topen ttransfer ∧
    offsetFrom topen ttransfer < offsetFrom topen tclose ∧ offsetFrom topen tclose < offsetFrom topen tend)

/-- The rule of SetNight (R6). -/
def State.setNight (s : State) (o t c e : Nat) : Answer :=
  if nightTimes o t c e = false then s.refuse .badValue
  else if s.surveying = true ∨ s.inNight = true then s.refuse .notNow
  else
    (State.mark { s with clock := { s.clock with
      topen := o, ttransfer := t, tclose := c, tend := e, nightValid := true } } .phase).done

/-- SET_NIGHT (R6). -/
def execSetNight (tag : Byte) (o t c e : Nat) (s : State) : Out :=
  .next (s.interpret (.setNight tag o t c e) 0x83 tag (·.setNight o t c e))

/-- The least and the greatest divisor (R2). -/
def clampDivisor (d : Nat) : Nat := clamp 1000000 50000000 d

/-- The rule of SetTiming (R2). -/
def State.setTiming (s : State) (divisor : Nat) : Answer :=
  s.unlessSurvey
    { state := { s with clock := { s.clock with divisor := clampDivisor divisor } },
      result := if clampDivisor divisor = divisor then .done else .doneClamped, fields := [] }

/-- SET_TIMING (R2). -/
def execSetTiming (tag : Byte) (divisor : Nat) (s : State) : Out :=
  .next (s.interpret (.setTiming tag divisor) 0x84 tag (·.setTiming divisor))

/-- The rule of AdvancePhase (R9): the reply carries the code of the phase in force when the step is done.
TRANSFER to CLOSE and CLOSE to ending are both answered 4, CLOSE's code, since ending has none: DESIGN CHOICE (log entry 11). -/
def State.advancePhase (s : State) : Answer :=
  if s.started = false then s.refuse .unconfigured
  else if s.clock.ending = true ∨ s.surveying = true then s.refuse .notNow
  else
    let after := s.settle s.nextPhase
    after.done (u8 after.clock.phase.code)

/-- ADVANCE_PHASE (R9). -/
def execAdvancePhase (tag : Byte) (s : State) : Out :=
  .next (s.interpret (.advancePhase tag) 0x90 tag State.advancePhase)

/-! ### Dispatch, channel and census settings (R122, R149, R89) -/

/-- A run limit as stored: the smallest of 1, 2, 4 and 8 not below it, and 8 above (R122). -/
def runLimitOf (n : Nat) : Nat := if n ≤ 1 then 1 else if n ≤ 2 then 2 else if n ≤ 4 then 4 else 8

/-- The dispatch settings brought into their ranges (§7.1, R122). -/
def clampDispatch (d : DispatchSettings) : DispatchSettings :=
  { loadSlots := clamp 0 8 d.loadSlots, urgencyLead := clamp 300 7200 d.urgencyLead, offerTime := clamp 10 120 d.offerTime,
    unloadLimit := runLimitOf d.unloadLimit, loadLimit := runLimitOf d.loadLimit, relocLimit := runLimitOf d.relocLimit,
    laneBase := clamp 30 900 d.laneBase, doorBase := clamp 30 900 d.doorBase, directBase := clamp 30 900 d.directBase,
    relocBase := clamp 30 900 d.relocBase, changeover := clamp 0 600 d.changeover }

/-- An acceptance that carries the values as stored when one was clamped (R174). -/
def State.doneOrClamped (s : State) (clamped : Bool) (stored : List Byte) : Answer :=
  if clamped then ⟨s, .doneClamped, stored⟩ else s.done

/-- The rule of SetDispatch (R122). -/
def State.setDispatch (s : State) (d : DispatchSettings) : Answer :=
  s.unlessSurvey (State.doneOrClamped { s with sched := { s.sched with settings := clampDispatch d } } (clampDispatch d != d)
    (emit (dispatchFields (clampDispatch d))))

/-- SET_DISPATCH (R122). -/
def execSetDispatch (tag : Byte) (d : DispatchSettings) (s : State) : Out :=
  .next (s.interpret (.setDispatch tag d) 0x85 tag (·.setDispatch d))

/-- The channel settings brought into their ranges (§8.1). -/
def clampChannel (c : ChannelSettings) : ChannelSettings :=
  { rate := c.rate, leadIn := clamp 2 16 c.leadIn, burstLimit := clamp 1 16 c.burstLimit,
    guardTime := clamp 20 500 c.guardTime, clearTimeout := clamp 50 2000 c.clearTimeout }

/-- The rule of SetChannel (R149): a new rate applies at once while the transmitter is QUIET. -/
def State.setChannel (s : State) (c : ChannelSettings) : Answer :=
  if c.rate ≠ 9600 ∧ c.rate ≠ 19200 then s.refuse .badValue
  else s.unlessSurvey (State.doneOrClamped
    { s with floor := Floor.applyRate { s.floor with settings := clampChannel c } } (clampChannel c != c)
    (emit (channelFields (clampChannel c))))

/-- SET_CHANNEL (R149). -/
def execSetChannel (tag : Byte) (c : ChannelSettings) (s : State) : Out :=
  .next (s.interpret (.setChannel tag c) 0x86 tag (·.setChannel c))

/-- The census interval as stored: 0, or 600 to 7200 (R89). -/
def clampInterval (p : Nat) : Nat := if p = 0 then 0 else clamp 600 7200 p

/-- The census group subjects are marked. -/
def State.markGroups (s : State) : State := groupNumbers.foldl (fun s g => s.mark (.census g)) s

/-- The rule of SetCensus (R89). -/
def State.setCensus (s : State) (p g tc : Nat) : Answer :=
  s.unlessSurvey (
    if g ≠ 1 ∧ g ≠ 2 ∧ g ≠ 4 then s.refuse .badValue
    else if g ≠ s.census.groups ∧ s.inNight = true then s.refuse .notNow
    else if g ≠ s.census.groups ∧ groupNumbers.any (fun n => (s.group n).stage != .none) = true then s.refuse .conflict
    else
      let t := { s with census := { s.census with
        interval := clampInterval p, groups := g, timeout := clamp 60 900 tc } }
      let t := if clampInterval p = 0 then t.disarmCensus else t
      { state := t.markGroups,
        result := if clampInterval p = p ∧ clamp 60 900 tc = tc then .done else .doneClamped, fields := [] })

/-- SET_CENSUS (R89). -/
def execSetCensus (tag : Byte) (p g tc : Nat) (s : State) : Out :=
  .next (s.interpret (.setCensus tag p g tc) 0x87 tag (·.setCensus p g tc))

/-! ### Classes, doors and lanes (R100, R46, R76) -/

/-- Whether `v` lies from `lo` to `hi`. -/
def within (lo hi v : Nat) : Bool := decide (lo ≤ v ∧ v ≤ hi)

/-- The class record that SetClass carries, when every field is in range (R100, §6.1). -/
def classOf (c : ClassFields) : Option ClassRec :=
  if within 4 16 c.rows && within 18 30 c.hmax && within 1000 30000 c.wmax && within 8 40 c.axleX &&
      within 1000 30000 c.kmax && within 1000 30000 c.amax && within 1 3 c.tiers &&
      (c.dlat.map (within 0 5000)).getD true then
    (SidePattern.ofCode c.pattern).map (fun p =>
      { rows := c.rows, hmax := c.hmax, wmax := c.wmax, axleX := c.axleX, kmax := c.kmax, amax := c.amax, tiers := c.tiers,
        dlat := c.dlat, pattern := p, flip := c.flip, valid := true })
  else none

/-- Whether a bound SWAP or OUTBOUND trailer uses class `n` (R100). -/
def State.classInUse (s : State) (n : Nat) : Bool :=
  s.trailers.any (fun t => t.role != .inbound && t.cls == n &&
    (match t.state with
     | .unloading | .ready | .loading | .closing | .sealed => true
     | _ => false))

/-- The rule of SetClass (R100). -/
def State.setClass (s : State) (n : Nat) (c : ClassFields) : Answer :=
  s.unlessSurvey (
    match classOf c with
    | none => s.refuse .badValue
    | some r =>
      if 7 < n then s.refuse .badValue
      else if s.classInUse n then s.refuse .conflict
      else State.done { s with classes := s.classes.set n r })

/-- SET_CLASS (R100). -/
def execSetClass (tag : Byte) (n : Nat) (c : ClassFields) (s : State) : Out :=
  .next (s.interpret (.setClass tag n c) 0x88 tag (·.setClass n c))

/-- Whether an enabled depot names door `d` as its home door. -/
def State.isHome (s : State) (d : Nat) : Bool := s.depots.rows.any (fun r => r.enabled && r.home == some d)

/-- Whether SetDoor may clear the enabled flag of an enabled door (R46). -/
def State.mayDisable (s : State) (d : Nat) : Bool :=
  (s.door d).state == .free && (s.door d).queue.isEmpty && !(s.started && s.isHome d)

/-- A door's settings after an accepted SetDoor, its sense line read through the polarity set (R46, R47). -/
def DoorRec.configured (r : DoorRec) (f : DoorFields) (p : Polarity) (divisor : Nat) : DoorRec :=
  DoorRec.sensed { r with
    enabled := f.enabled, polarity := p, debounce := clamp 1 15 f.debounce, callTime := clamp 60 1800 f.callTime,
    unloadLimit := clamp 1 4 f.unloadLimit, loadLimit := clamp 1 4 f.loadLimit } divisor

/-- A door's state after an accepted SetDoor: OFF when disabled; when it was disabled and is enabled, ARRIVED if its debounced
level is PRESENT and the part is started, and else FREE with the call check made (R46). -/
def State.enableDoor (s : State) (d : Nat) (was is : Bool) : State :=
  match was, is with
  | _, false => s.modDoor d (fun r => { r with state := .off })
  | true, true => s
  | false, true =>
    if (s.door d).present = true ∧ s.started = true then
      s.modDoor d (fun r => { r with state := .arrived, called := none, arrival := some s.now })
    else (s.modDoor d (fun r => { r with state := .free })).callCheck d

/-- The rule of SetDoor (R46). -/
def State.setDoor (s : State) (d : Nat) (f : DoorFields) : Answer :=
  match Polarity.ofCode f.polarity with
  | none => s.refuse .badValue
  | some p =>
    if 47 < d then s.refuse .badValue
    else if (s.door d).enabled = true ∧ f.enabled = false ∧ s.mayDisable d = false then s.refuse .conflict
    else s.unlessSurvey
      { state := ((s.touchDoor d (fun r => r.configured f p s.clock.divisor)).enableDoor d (s.door d).enabled f.enabled)
        result :=
          if clamp 1 15 f.debounce = f.debounce ∧ clamp 60 1800 f.callTime = f.callTime ∧
              clamp 1 4 f.unloadLimit = f.unloadLimit ∧ clamp 1 4 f.loadLimit = f.loadLimit then .done else .doneClamped
        fields := [] }

/-- SET_DOOR (R46). -/
def execSetDoor (tag : Byte) (d : Nat) (f : DoorFields) (s : State) : Out :=
  .next (s.interpret (.setDoor tag d f) 0x89 tag (settling (·.setDoor d f)))

/-- The binding that a code names: 0 NONE, 1 to 127 a depot, 0x80 HOLD (§10.7). -/
def bindingOf (code : Nat) : Option Binding :=
  if code = 0 then some .none
  else if code ≤ 127 then some (.depot code)
  else if code = 0x80 then some .hold
  else none

/-- Whether a lane holds nothing and nothing is under way in it, so that it may be rebound (R76). -/
def LaneRec.mayRebind (r : LaneRec) : Bool :=
  r.contents.isEmpty && r.idle && r.state != .pending && r.state != .locked

/-- Whether a depot other than that of the binding lists lane `l` in its group (R76). -/
def State.listedElsewhere (s : State) (l : Nat) (b : Binding) : Bool :=
  (List.range 127).any (fun i => (s.depots.get i).group.contains l && b != .depot (i + 1))

/-- Whether a lane other than `l` is bound to HOLD. -/
def State.otherBay (s : State) (l : Nat) : Bool := laneNumbers.any (fun m => m != l && (s.lane m).binding == .hold)

/-- The capacity an accepted SetLane stores: 1 to 48, and at least the level (R76). -/
def LaneRec.capacityFor (r : LaneRec) (capacity : Nat) : Nat := max r.level (clamp 1 48 capacity)

/-- A lane after an accepted SetLane (R76). -/
def LaneRec.configured (r : LaneRec) (b : Binding) (capacity high : Nat) : LaneRec :=
  { r with
    binding := b, capacity := r.capacityFor capacity, high := min 48 high
    state := if b = .none then .off else if r.state = .off then .open_ else r.state }

/-- The rule of SetLane (R76). -/
def State.setLane (s : State) (l code capacity high : Nat) : Answer :=
  match bindingOf code with
  | none => s.refuse .badValue
  | some b =>
    let r := s.lane l
    if 95 < l then s.refuse .badValue
    else s.unlessSurvey (
      if b ≠ r.binding ∧ r.mayRebind = false then s.refuse .conflict
      else if s.started = true ∧ b ≠ r.binding ∧ s.listedElsewhere l b = true then s.refuse .conflict
      else if s.started = true ∧ b ≠ r.binding ∧ r.binding = .hold ∧ s.otherBay l = false then s.refuse .conflict
      else
        State.doneOrClamped (s.touchLane l (fun r => r.configured b capacity high))
          (r.capacityFor capacity != capacity || min 48 high != high) (u8 (r.capacityFor capacity) ++ u8 (min 48 high)))

/-- SET_LANE (R76). -/
def execSetLane (tag : Byte) (l code capacity high : Nat) (s : State) : Out :=
  .next (s.interpret (.setLane tag l code capacity high) 0x8A tag (settling (·.setLane l code capacity high)))

/-! ### Depots and routes (R15, R16, R20, R21) -/

/-- Whether a list names the same number twice. -/
def hasRepeat : List Nat → Bool
  | [] => false
  | a :: rest => rest.contains a || hasRepeat rest

/-- Whether the values of a SetDepot are in range (R20). -/
def depotValid (d : Nat) (f : DepotFields) : Bool :=
  within 1 127 d && (f.home.map (within 0 47)).getD true && f.group.all (within 0 95) && !hasRepeat f.group &&
    decide (f.group.length ≤ 8) && !(f.enabled && f.group.isEmpty)

/-- Whether a trailer record names depot `d` as origin, near drop or far drop. -/
def State.trailerNames (s : State) (d : Nat) : Bool :=
  s.trailers.any (fun t => t.origin == d || t.near == d || t.far == some d)

/-- Whether a depot has pallet records: a counter is not 0, or a MISSING record has it as its destination (R21). -/
def State.hasRecords (s : State) (d : Nat) : Bool :=
  let r := s.depot d
  r.expected != 0 || r.moving != 0 || r.staged != 0 || r.held != 0 || r.loaded != 0 ||
    s.pallets.any (fun p => p.dest == d && p.place.state == .missing)

/-- The check of R21 that fails first, in the rule's order: 1 a lane not bound to the depot, 2 a home door that is OFF, 3 the depot
is disabled with records, 4 it is disabled while a trailer names it.
DESIGN CHOICE (log entry 10). -/
def State.depotConflict (s : State) (d : Nat) (f : DepotFields) : Option Nat :=
  let disabling := (s.depot d).enabled && !f.enabled
  if f.group.any (fun l => !s.boundTo l d) then some 1
  else if (f.home.map (fun h => (s.door h).state == .off)).getD false then some 2
  else if disabling && s.hasRecords d then some 3
  else if disabling && s.trailerNames d then some 4
  else none

/-- The rule of SetDepot (R20, R21). -/
def State.setDepot (s : State) (d : Nat) (f : DepotFields) : Answer :=
  if depotValid d f = false then s.refuse .badValue
  else s.unlessSurvey (
    match (if s.started then s.depotConflict d f else none) with
    | some n => s.refuse .conflict (u8 n)
    | none => (s.modDepot d (fun r =>
        { r with enabled := f.enabled, home := f.home, group := f.group, priority := f.priority })).done)

/-- SET_DEPOT (R20, R21). -/
def execSetDepot (tag : Byte) (d : Nat) (f : DepotFields) (s : State) : Out :=
  .next (s.interpret (.setDepot tag d f) 0x8B tag (settling (·.setDepot d f)))

/-- The rule of SetRoute (R15). -/
def State.setRoute (s : State) (n p m d : Nat) : Answer :=
  if 255 < n ∨ 0xFFFFF < p ∨ 0xFFFFF < m ∨ d = 0 ∨ 127 < d then s.refuse .badValue
  else s.unlessSurvey (State.done { s with
    routes := s.routes.set n
      { pattern := BitVec.ofNat 20 p &&& BitVec.ofNat 20 m, mask := BitVec.ofNat 20 m, depot := d, valid := true } })

/-- SET_ROUTE (R15). -/
def execSetRoute (tag : Byte) (n p m d : Nat) (s : State) : Out :=
  .next (s.interpret (.setRoute tag n p m d) 0x8C tag (·.setRoute n p m d))

/-- The rule of ClearRoute with one entry (R16). -/
def State.clearRoute (s : State) (n : Nat) : Answer :=
  if 255 < n then s.refuse .badValue
  else s.unlessSurvey (State.done { s with routes := s.routes.set n RouteEntry.reset })

/-- CLEAR_ROUTE (R16). -/
def execClearRoute (tag : Byte) (n : Nat) (s : State) : Out :=
  .next (s.interpret (.clearRoute tag n) 0x8D tag (·.clearRoute n))

/-- The rule of ClearRoute in its all form (R16). -/
def State.clearRoutes (s : State) : Answer :=
  s.unlessSurvey (State.done { s with routes := Table.fill 256 RouteEntry.reset })

/-- CLEAR_ROUTE_ALL (R16). -/
def execClearRouteAll (tag : Byte) (s : State) : Out := .next (s.interpret (.clearRouteAll tag) 0x8D tag State.clearRoutes)

end Sys2Proof.Machine
end

