-- ==== Sys2Proof/Machine/TrailerCommands.lean ====
section
/-!
DEFINITION. The commands about trailers (chapter 4, R118) and manifests (chapter 3).
-/

namespace Sys2Proof.Machine

/-! ### Announce and AmendTrailer (R50, R51) -/

/-- Whether a time of day is in range. -/
def timeValid (t : Nat) : Bool := decide (t < Config.daySeconds)

/-- Whether a depot code names a depot. -/
def depotCode (d : Nat) : Bool := within 1 127 d

/-- The values of an Announce, the role apart, checked against the ranges of §4.3 (R50). -/
def announceValid (r : Role) (a : AnnounceFields) : Bool :=
  within 1 65535 a.fleet && depotCode a.origin &&
    (if r = .inbound then a.near == 0 && a.far.isNone
     else depotCode a.near && (a.far.map depotCode).getD true && a.far != some a.near) &&
    decide (a.cls ≤ 7) && (a.window.map (fun w => timeValid w.1 && timeValid w.2)).getD true && timeValid a.tdep

/-- Whether a depot that an Announce names is disabled (R50). -/
def State.namesDisabled (s : State) (r : Role) (a : AnnounceFields) : Bool :=
  !(s.depot a.origin).enabled || (r != .inbound && !(s.depot a.near).enabled) ||
    (a.far.map (fun d => !(s.depot d).enabled)).getD false

/-- The record an Announce makes (R50). -/
def announced (r : Role) (a : AnnounceFields) : TrailerRec :=
  { fleet := a.fleet, role := r, origin := a.origin, near := a.near, far := a.far, cls := a.cls, window := a.window,
    tdep := a.tdep, closingLead := clamp 60 3600 a.closingLead, switchLead := clamp 300 7200 a.switchLead,
    gate := none, dock := none, lapses := 0, late := false, early := false, expected := 0, taken := 0, loaded := 0,
    door := none, buffer := none, state := .announced }

/-- The rule of Announce (R50). -/
def State.announce (s : State) (a : AnnounceFields) : Answer :=
  s.phaseChecked (
    match Role.ofCode a.role with
    | none => s.refuse .badValue
    | some r =>
      if announceValid r a = false then s.refuse .badValue
      else if (s.trailer? a.fleet).isSome then s.refuse .conflict
      else if s.namesDisabled r a then s.refuse .conflict
      else if r ≠ .inbound ∧ (s.classes.get a.cls).valid = false then s.refuse .conflict
      else if Config.maxTrailers ≤ s.trailers.length then s.refuse .full
      else
        { state := State.mark { s with trailers := insertAsc TrailerRec.fleet (announced r a) s.trailers }
            (.trailer a.fleet)
          result := if clamp 60 3600 a.closingLead = a.closingLead ∧ clamp 300 7200 a.switchLead = a.switchLead then .done
            else .doneClamped
          fields := [] })

/-- ANNOUNCE (R50). -/
def execAnnounce (tag : Byte) (a : AnnounceFields) (s : State) : Out :=
  .next (s.interpret (.announce tag a) 0x91 tag (·.announce a))

/-- Whether a trailer has not been bound yet: ANNOUNCED, YARD or CALLED (R51). -/
def TrailerState.unbound : TrailerState → Bool
  | .announced | .yard | .called => true
  | _ => false

/-- The values of an AmendTrailer, checked as in R50: an INBOUND trailer has no far drop, and the far drop differs from the near
(R51). -/
def amendValid (t : TrailerRec) (a : AmendFields) : Bool :=
  (a.tdep.map timeValid).getD true &&
    (match a.far with
     | none => true
     | some d => d == 0 || (depotCode d && t.role != .inbound && d != t.near))

/-- Whether an AmendTrailer's change of the far drop is refused CONFLICT (R51). -/
def State.amendConflict (s : State) (t : TrailerRec) (a : AmendFields) : Bool :=
  match a.far with
  | none => false
  | some d =>
    if d = 0 then
      !(t.state.unbound ||
        ((s.planOf t).map (fun p => t.state.isBound && p.inFar && !p.holdsAny)).getD false)
    else !t.state.unbound || !(s.depot d).enabled

/-- A trailer record with the changes of an accepted AmendTrailer (R51). -/
def TrailerRec.amended (t : TrailerRec) (a : AmendFields) : TrailerRec :=
  { t with
    tdep := a.tdep.getD t.tdep
    closingLead := (a.closingLead.map (clamp 60 3600)).getD t.closingLead
    switchLead := (a.switchLead.map (clamp 300 7200)).getD t.switchLead
    far := match a.far with
      | none => t.far
      | some d => if d = 0 then none else some d }

/-- The effects of an accepted AmendTrailer on a bound trailer: a removed far drop puts the plan into its near phase with the far
drop absent (R117); a closing time and a switch time already reached are acted on (R51).
R51 speaks of the new closing time and the new switch time, and not of a command that changes neither Tdep nor that time's lead: both
times of the record are tested after every accepted command, the unchanged ones too: DESIGN CHOICE (log entry 29). -/
def State.amendBound (s : State) (fleet : Nat) (removed : Bool) : State :=
  match s.trailer? fleet with
  | some { state := st, door := some d, .. } =>
    if st.isBound then
      let s := if removed then (s.switchPlan d).modPlan d (fun p => { p with far := none }) else s
      let s := match s.trailer? fleet with
        | some t => if s.reached t.closingTime then s.becomeClosing fleet else s
        | none => s
      s.switchIfReached fleet
    else s
  | _ => s

/-- The rule of AmendTrailer (R51). -/
def State.amendTrailer (s : State) (fleet : Nat) (a : AmendFields) : Answer :=
  s.phaseChecked (s.withTrailer fleet (fun t =>
    if amendValid t a = false then s.refuse .badValue
    else if s.amendConflict t a then s.refuse .conflict
    else
      { state := (s.touchTrailer fleet (fun t => t.amended a)).amendBound fleet (a.far == some 0)
        result :=
          if (a.closingLead.map (fun l => clamp 60 3600 l == l)).getD true &&
              (a.switchLead.map (fun l => clamp 300 7200 l == l)).getD true then .done else .doneClamped
        fields := [] }))

/-- AMEND_TRAILER (R51). -/
def execAmendTrailer (tag : Byte) (fleet : Nat) (a : AmendFields) (s : State) : Out :=
  .next (s.interpret (.amendTrailer tag fleet a) 0x94 tag (settling (·.amendTrailer fleet a)))

/-! ### GateArrival, AtDoor and EndUnload (R54, R58, R63) -/

/-- Whether a trailer that comes to the gate now comes after its window's end, in a night phase (R54). -/
def State.windowPassed (s : State) (t : TrailerRec) : Bool :=
  s.inNight && (t.window.map (fun w => decide (s.offset w.2 < s.offset s.now))).getD false

/-- The rule of GateArrival (R54). -/
def State.gateArrival (s : State) (fleet : Nat) : Answer :=
  s.phaseChecked (s.withTrailer fleet (fun t =>
    if t.state ≠ .announced then s.refuse .notNow
    else
      match s.doorFor t with
      | none => s.refuse .conflict
      | some d =>
        (((s.touchTrailer fleet (fun t =>
            { t with state := .yard, door := some d, gate := some s.now, lapses := 0,
                     late := t.late || s.windowPassed t })).touchDoor d
          (fun r => { r with queue := r.queue ++ [fleet] })).callCheck d).done))

/-- GATE_ARRIVAL (R54). -/
def execGateArrival (tag : Byte) (fleet : Nat) (s : State) : Out :=
  .next (s.interpret (.gateArrival tag fleet) 0x93 tag (·.gateArrival fleet))

/-- The rule of AtDoor (R58). -/
def State.atDoor (s : State) (d fleet : Nat) : Answer :=
  s.phaseChecked (
    if 47 < d then s.refuse .badValue
    else if (s.door d).state ≠ .arrived then s.refuse .notNow
    else s.withTrailer fleet (fun t =>
      if t.state.isBound then s.refuse .conflict else (s.bindTrailer d fleet).done))

/-- AT_DOOR (R58, R59). -/
def execAtDoor (tag : Byte) (d fleet : Nat) (s : State) : Out :=
  .next (s.interpret (.atDoor tag d fleet) 0x95 tag (settling (·.atDoor d fleet)))

/-- The rule of EndUnload (R63). -/
def State.endUnload (s : State) (fleet : Nat) : Answer :=
  s.phaseChecked (s.withTrailer fleet (fun t =>
    if t.state = .unloading then (s.endUnloading fleet).done else s.refuse .notNow))

/-- END_UNLOAD (R63). -/
def execEndUnload (tag : Byte) (fleet : Nat) (s : State) : Out :=
  .next (s.interpret (.endUnload tag fleet) 0x96 tag (settling (·.endUnload fleet)))

/-! ### SwitchDrop, CloseTrailer and CancelTrailer (R118, R66, R52) -/

/-- The rule of SwitchDrop (R118): the reply carries r_open after the switch. -/
def State.switchDrop (s : State) (fleet : Nat) : Answer :=
  s.phaseChecked (s.withTrailer fleet (fun t =>
    match t.state.isBound, t.door, s.planOf t with
    | true, some d, some p =>
      if p.inFar then
        let after := s.switchPlan d
        after.done (u8 (((after.livePlan d).map Plan.openRow).getD 0))
      else s.refuse .notNow
    | _, _, _ => s.refuse .notNow))

/-- SWITCH_DROP (R118). -/
def execSwitchDrop (tag : Byte) (fleet : Nat) (s : State) : Out :=
  .next (s.interpret (.switchDrop tag fleet) 0x97 tag (settling (·.switchDrop fleet)))

/-- A READY trailer becomes CLOSING by CloseTrailer, and the seal check follows (R66). -/
def State.closeReady (s : State) (fleet : Nat) : State :=
  (s.touchTrailer fleet (fun t => { t with state := .closing })).sealCheck fleet

/-- The rule of CloseTrailer (R66). -/
def State.closeTrailer (s : State) (fleet : Nat) : Answer :=
  s.phaseChecked (s.withTrailer fleet (fun t =>
    match t.state with
    | .ready => (s.closeReady fleet).done
    | .loading => (s.becomeClosing fleet).done
    | .closing | .sealed => s.done
    | _ => s.refuse .notNow))

/-- CLOSE_TRAILER (R66). -/
def execCloseTrailer (tag : Byte) (fleet : Nat) (s : State) : Out :=
  .next (s.interpret (.closeTrailer tag fleet) 0x98 tag (settling (·.closeTrailer fleet)))

/-- An ANNOUNCED or YARD trailer is cancelled: it leaves its queue, the records EXPECTED on it are freed, and its own record is
freed (R52). -/
def State.cancel (s : State) (t : TrailerRec) : State :=
  let s := if t.state = .yard then s.leaveQueue t else s
  ((s.palletsAt (fun w => w == .expected t.fleet)).foldl State.freePallet s).freeTrailer t.fleet

/-- The rule of CancelTrailer (R52). -/
def State.cancelTrailer (s : State) (fleet : Nat) : Answer :=
  s.phaseChecked (s.withTrailer fleet (fun t =>
    if t.state = .announced ∨ t.state = .yard then (s.cancel t).done else s.refuse .notNow))

/-- CANCEL_TRAILER (R52). -/
def execCancelTrailer (tag : Byte) (fleet : Nat) (s : State) : Out :=
  .next (s.interpret (.cancelTrailer tag fleet) 0x99 tag (settling (·.cancelTrailer fleet)))

/-! ### Manifest (R29 to R31) -/

/-- Whether a manifest entry passes the check of R29. -/
def entryValid (e : ManifestEntry) : Bool := e.id != 0 && labelValid e.label

/-- The position of the first entry that fails, counting from 1 (R29). -/
def firstBad : (position : Nat) → List ManifestEntry → Option Nat
  | _, [] => none
  | n, e :: rest => if entryValid e then firstBad (n + 1) rest else some n

/-- What becomes of a manifest's entries (R30): the accepted ones in list order, and how many are duplicates and refused. -/
structure ManifestSplit where
  accepted  : List ManifestEntry
  duplicate : Nat
  refused   : Nat
  deriving DecidableEq, Repr

/-- The record of an accepted entry is created (R31). -/
def State.acceptEntry (s : State) (t : TrailerRec) (e : ManifestEntry) : State :=
  s.createPallet (labelRecord e.label e.id t.origin (s.resolve e.label.route).dest t.fleet (.expected t.fleet))

/-- The entries of a manifest in list order: each is a duplicate, accepted, or, from the first that finds the table full on,
refused (R30). -/
def State.takeEntries (t : TrailerRec) : List ManifestEntry → State → State × ManifestSplit
  | [], s => (s, { accepted := [], duplicate := 0, refused := 0 })
  | e :: rest, s =>
    if (s.pallet? e.id).isSome then
      match State.takeEntries t rest s with
      | (s, n) => (s, { n with duplicate := n.duplicate + 1 })
    else if s.pallets.length < Config.maxPallets then
      match State.takeEntries t rest (s.acceptEntry t e) with
      | (s, n) => (s, { n with accepted := e :: n.accepted })
    else (s, { accepted := [], duplicate := 0, refused := rest.length + 1 })

/-- The label exceptions of the accepted entries of one Manifest, in ascending pallet id (R18, R32, R164).
That the two exceptions of one pallet stand together, before the next pallet's: DESIGN CHOICE (log entry 25). -/
def State.raiseLabels (s : State) (entries : List ManifestEntry) : State :=
  (entries.foldr (insertAsc ManifestEntry.id) []).foldl (fun s e => s.raiseLabel e.id e.label) s

/-- An accepted Manifest, processed whole (R30, R31).
The exception list's subject joins the report queue after the records are created and before the trailer's: DESIGN CHOICE
(log entry 25). -/
def State.acceptManifest (s : State) (t : TrailerRec) (entries : List ManifestEntry) : Answer :=
  match State.takeEntries t entries s with
  | (s, n) =>
    let accepted := n.accepted.length
    let s := s.raiseLabels n.accepted
    let s := if accepted = 0 then s else s.raiseExpected t.fleet accepted
    let counts := u8 accepted ++ u8 n.duplicate ++ u8 n.refused
    if n.refused = 0 then s.done counts
    else
      ⟨(s.raise .tableFull (.trailer t.fleet) n.refused).mark (.trailer t.fleet), .full,
        counts ++ u8 (accepted + n.duplicate + 1)⟩

/-- The rule of Manifest (R29): `excess` bytes left over after the whole entries make the count disagree with the length. -/
def State.manifest (s : State) (fleet count : Nat) (entries : List ManifestEntry) (excess : Nat) : Answer :=
  s.phaseChecked (
    if 64 < count ∨ count ≠ entries.length ∨ excess ≠ 0 then s.refuse .badForm
    else s.withTrailer fleet (fun t =>
      if t.role = .outbound then s.refuse .conflict
      else
        match t.state with
        | .announced | .yard | .called | .unloading =>
          match firstBad 1 entries with
          | some n => s.refuse .badValue (u8 n)
          | none => s.acceptManifest t entries
        | _ => s.refuse .notNow))

/-- MANIFEST (R29 to R31). -/
def execManifest (tag : Byte) (fleet count : Nat) (entries : List ManifestEntry) (excess : Nat) (s : State) : Out :=
  .next (s.interpret (.manifest tag fleet count entries excess) 0x92 tag (·.manifest fleet count entries excess))

end Sys2Proof.Machine
end

