-- ==== Sys2Proof/Machine/PalletCommands.lean ====
section
/-!
DEFINITION. HoldOnArrival and ReleaseHeld (chapter 3), CensusNow and CensusResult (chapter 5), and the clearing of exceptions
(chapter 9).
-/

namespace Sys2Proof.Machine

/-! ### Holding and release (R39, R40) -/

/-- The rule of HoldOnArrival (R39).
Its phase and survey checks come before those of the record, which R39 names first: DEDUCED (log entry 9). -/
def State.holdOnArrival (s : State) (p : Nat) : Answer :=
  s.phaseChecked (
    match s.pallet? p with
    | none => s.refuse .unknown
    | some r =>
      if r.place.state ≠ .expected then s.refuse .notNow
      else
        let t := s.modPallet p (fun r => { r with hold := true })
        State.done (match r.inbound with | some f => t.mark (.trailer f) | none => t))

/-- HOLD_ON_ARRIVAL (R39). -/
def execHoldOnArrival (tag : Byte) (p : Nat) (s : State) : Out :=
  .next (s.interpret (.holdOnArrival tag p) 0xA1 tag (·.holdOnArrival p))

/-- An accepted ReleaseHeld: the record, HELD in lane `l`, becomes STAGED in it with destination `dest` (R40); the counters follow
(R23, R24). -/
def State.release (s : State) (r : PalletRec) (l dest : Nat) : State :=
  let t := s.modPallet r.id (fun r => { r with place := .staged l, hold := false, dest := dest })
  (t.count dest (if r.dest = 0 then none else some .held) (some .staged)).mark (.lane l)

/-- The rule of ReleaseHeld (R40). -/
def State.releaseHeld (s : State) (p : Nat) (dest : Option Nat) : Answer :=
  s.phaseChecked (
    match s.pallet? p with
    | none => s.refuse .unknown
    | some r =>
      match r.place, dest with
      | .held l, some d =>
        if depotCode d = false then s.refuse .badValue
        else if r.dest ≠ 0 then s.refuse .conflict
        else if (s.depot d).enabled = false then s.refuse .conflict
        else (s.release r l d).done
      | .held l, none => if r.dest = 0 then s.refuse .badValue else (s.release r l r.dest).done
      | _, _ => s.refuse .notNow)

/-- RELEASE_HELD (R40). -/
def execReleaseHeld (tag : Byte) (p : Nat) (dest : Option Nat) (s : State) : Out :=
  .next (s.interpret (.releaseHeld tag p dest) 0xA2 tag (settling (·.releaseHeld p dest)))

/-! ### CensusNow and CensusResult (R91, R94) -/

/-- The rule of CensusNow in its lane form (R91). -/
def State.censusNowLane (s : State) (l : Nat) : Answer :=
  s.phaseChecked (
    if 95 < l then s.refuse .badValue
    else if (s.lane l).isBound = false then s.refuse .conflict
    else if (s.group (s.groupOf l)).stage ≠ .none then s.refuse .notNow
    else (s.startCensus (s.groupOf l) [l]).done)

/-- CENSUS_NOW_LANE (R91). -/
def execCensusNowLane (tag : Byte) (l : Nat) (s : State) : Out :=
  .next (s.interpret (.censusNowLane tag l) 0xA9 tag (settling (·.censusNowLane l)))

/-- The rule of CensusNow in its group form (R91). -/
def State.censusNowGroup (s : State) (g : Nat) : Answer :=
  s.phaseChecked (
    if s.census.groups ≤ g then s.refuse .badValue
    else if (s.group g).stage ≠ .none then s.refuse .notNow
    else if (s.groupLanes g).isEmpty then s.refuse .conflict
    else (s.startCensus g (s.groupLanes g)).done)

/-- CENSUS_NOW_GROUP (R91). -/
def execCensusNowGroup (tag : Byte) (g : Nat) (s : State) : Out :=
  .next (s.interpret (.censusNowGroup tag g) 0xA9 tag (settling (·.censusNowGroup g)))

/-- The rule of CensusResult (R94). -/
def State.censusResult (s : State) (l count : Nat) (ids : List Nat) (excess : Nat) : Answer :=
  s.phaseChecked (
    if 64 < count ∨ count ≠ ids.length ∨ excess ≠ 0 then s.refuse .badForm
    else if 95 < l ∨ ids.contains 0 = true then s.refuse .badValue
    else if (s.lane l).state ≠ .locked then s.refuse .notNow
    else
      match s.reconcile l ids with
      | (t, n) => t.done (u8 n.kept ++ u8 n.removed ++ u8 n.moved ++ u8 n.left))

/-- CENSUS_RESULT (R94, R95). -/
def execCensusResult (tag : Byte) (l count : Nat) (ids : List Nat) (excess : Nat) (s : State) : Out :=
  .next (s.interpret (.censusResult tag l count ids excess) 0xAA tag (settling (·.censusResult l count ids excess)))

/-! ### ClearException (R166, R167) -/

/-- Whether an entry has the key that three codes name. -/
def ExcEntry.codesAre (e : ExcEntry) (kind type number : Nat) : Bool :=
  e.kind.code == kind && e.subject.typeCode == type && e.subject.number == number

/-- The rule of ClearException in its one-entry form (R166). -/
def State.clearException (s : State) (kind type number guardCount : Nat) : Answer :=
  s.unlessSurvey (
    if within 1 19 kind = false ∨ 5 < type then s.refuse .badValue
    else
      match s.exceptions.entries.find? (·.codesAre kind type number) with
      | none => s.refuse .unknown
      | some e =>
        if guardCount ≠ 0 ∧ guardCount ≠ e.count then s.refuse .conflict (u8 e.count ++ u24 e.last)
        else
          let t := s.setExceptions (s.exceptions.entries.filter (fun e => !e.codesAre kind type number))
          t.done (u16 t.exceptions.changes))

/-- CLEAR_EXCEPTION (R166). -/
def execClearException (tag : Byte) (kind type number guardCount : Nat) (s : State) : Out :=
  .next (s.interpret (.clearException tag kind type number guardCount) 0xB9 tag
    (·.clearException kind type number guardCount))

/-- The rule of ClearException in its all form (R167). -/
def State.clearExceptions (s : State) : Answer :=
  s.unlessSurvey (
    let t := if s.exceptions.entries.isEmpty then s else s.setExceptions []
    t.done (u8 s.exceptions.entries.length ++ u16 t.exceptions.changes))

/-- CLEAR_EXCEPTION_ALL (R167). -/
def execClearExceptionAll (tag : Byte) (s : State) : Out :=
  .next (s.interpret (.clearExceptionAll tag) 0xB9 tag State.clearExceptions)

end Sys2Proof.Machine
end

