-- ==== Sys2Proof/Machine/Queries.lean ====
section
/-!
DEFINITION. The queries, which change no state: their replies carry the fields their rules name, in the order named (§10.6).
-/

namespace Sys2Proof.Machine

/-- A list of at most 255 numbers as one byte of count and one byte each.
DESIGN CHOICE (log entry 11). -/
def listField (ns : List Nat) : List Byte := u8 ns.length ++ ns.flatMap u8

/-! ### QueryPallet (R43, R44) -/

/-- The fields of a task, as §7.9 lists them: truck, pallet, kind, source, target, reservation, state, deadline and first-of-run
mark.
The reservation's codes, 0 none, 1 a plan entry and 2 a lane place, and the forms of the fields without a task: DESIGN CHOICE
(log entry 11). -/
def taskFields (t : Option (Nat × Task)) : List Byte :=
  match t with
  | none => u8 0xFF ++ u32 0 ++ u8 0 ++ locationField none ++ targetField none ++ u8 0 ++ u8 0 ++ timeField none ++ u8 0
  | some (t, k) =>
    u8 t ++ u32 k.pallet ++ u8 k.kind.code ++ locationField (some k.source) ++ targetField (some k.target) ++
      u8 (match k.target with | .lane _ => 2 | .door .. => 1) ++ u8 (taskStateCode (some k)) ++ timeField k.deadline ++
      flagByte k.first

/-- The type and number of a last-known place: a truck 3, a lane 2, a trailer 4. -/
def lastPlaceField : LastPlace → List Byte
  | .truck n => u8 3 ++ u16 n
  | .lane n => u8 2 ++ u16 n
  | .trailer f => u8 4 ++ u16 f

/-- A STAGED pallet's place counted from the head of a FIFO lane, the head being 1.
The 0 in a bay: DESIGN CHOICE (log entry 11). -/
def State.placeInLane (s : State) (l id : Nat) : Nat := if (s.lane l).fifo then (s.lane l).contents.idxOf id + 1 else 0

/-- The location detail of a record (R43). -/
def State.whereField (s : State) (r : PalletRec) : List Byte :=
  match r.place with
  | .expected f => u16 f
  | .moving t =>
    let task := (s.truck t).task
    u8 t ++ u8 ((task.map (fun k => k.kind.code)).getD 0) ++ locationField (task.map Task.source) ++
      targetField (task.map Task.target) ++ u8 (taskStateCode task) ++ timeField (task.bind Task.deadline)
  | .staged l => u8 l ++ u8 (s.placeInLane l r.id) ++ flagByte (!(s.lane l).fifo)
  | .held l => u8 l
  | .loaded f row side tier => u16 f ++ u8 row ++ u8 side ++ u8 tier
  | .missing p => lastPlaceField p

/-- Every field of a pallet record (§3.2) with its location detail (R43).
The 0 of no hazard group, as in a label block: DEDUCED (log entry 11). -/
def State.palletFields (s : State) (r : PalletRec) : List Byte :=
  u32 r.id ++ u8 r.origin ++ u8 r.dest ++ u24 r.route.toNat ++ u16 r.weight ++ u8 r.height ++ u16 r.topLoad ++
    u8 (r.hazard.getD 0) ++ u8 r.service.code ++ flagByte r.hold ++ flagByte r.saturated ++ u8 r.roll ++
    fleetField r.inbound ++ u8 r.place.state.code ++ s.whereField r

/-- The rule of QueryPallet (R43). -/
def State.queryPallet (s : State) (p : Nat) : Answer :=
  match s.pallet? p with
  | none => s.refuse .unknown
  | some r => s.done (s.palletFields r)

/-- QUERY_PALLET (R43). -/
def execQueryPallet (tag : Byte) (p : Nat) (s : State) : Out :=
  .next (s.interpret (.queryPallet tag p) 0xA0 tag (·.queryPallet p))

/-- The number of pallet records in a state. -/
def State.palletsIn (s : State) (st : PalletState) : Nat := (s.pallets.filter (fun r => r.place.state == st)).length

/-- The summary of the pallet table (R44). -/
def State.palletSummary (s : State) : List Byte :=
  u16 s.pallets.length ++ u16 (Config.maxPallets - s.pallets.length) ++
    [PalletState.expected, .moving, .staged, .held, .loaded, .missing].flatMap (fun st => u16 (s.palletsIn st))

/-- QUERY_PALLET_SUMMARY (R44). -/
def execQueryPalletSummary (tag : Byte) (s : State) : Out :=
  .next (s.interpret (.queryPalletSummary tag) 0xA0 tag (fun s => s.done s.palletSummary))

/-! ### QueryLane (R98) -/

/-- A lane record and its contents (R98): a FIFO lane's members head first, a bay's each with its state.
The discipline is 1 for FIFO and 0 for BAY and for a lane bound to NONE: DESIGN CHOICE (log entry 11). -/
def State.laneFields (s : State) (l : Nat) : List Byte :=
  let r := s.lane l
  u8 r.binding.code ++ flagByte r.fifo ++ u8 r.capacity ++ u8 r.high ++ u8 r.state.code ++ u8 r.level ++ u8 r.reserved ++
    flagByte r.nearlyFull ++ numberField r.holder ++ numberField r.claim ++ u8 r.tasksOut ++ fleetField r.stalled ++
    flagByte r.unverified ++ timeField r.lastCensus ++ u8 (s.groupOf l) ++ u8 r.contents.length ++
    (if r.fifo then r.contents.flatMap u32 else r.contents.flatMap s.memberField)

/-- The rule of QueryLane in its lane form (R98). -/
def State.queryLane (s : State) (l : Nat) : Answer :=
  if 95 < l then s.refuse .badValue else s.done (s.laneFields l)

/-- QUERY_LANE (R98). -/
def execQueryLane (tag : Byte) (l : Nat) (s : State) : Out :=
  .next (s.interpret (.queryLane tag l) 0xA8 tag (·.queryLane l))

/-- A census group record. -/
def GroupRec.fields (r : GroupRec) : List Byte :=
  u8 r.stage.code ++ listField r.lanes ++ timeField r.nextDue ++ timeField r.timerEnd

/-- The census summary (R98). -/
def State.censusSummary (s : State) : List Byte :=
  u16 s.census.interval ++ u8 s.census.groups ++ u16 s.census.timeout ++ groupNumbers.flatMap (fun g => (s.group g).fields)

/-- QUERY_CENSUS_SUMMARY (R98). -/
def execQueryCensusSummary (tag : Byte) (s : State) : Out :=
  .next (s.interpret (.queryCensusSummary tag) 0xA8 tag (fun s => s.done s.censusSummary))

/-! ### QueryDoor, QueryTrailer and QueryDepot (R73, R74, R27) -/

/-- A door record and its yard queue (R73).
The more recently frozen buffer as its number, 0xFF when none is noted: DESIGN CHOICE (log entry 11). -/
def State.doorFields (s : State) (d : Nat) : List Byte :=
  let r := s.door d
  flagByte r.enabled ++ u8 r.polarity.code ++ u16 r.debounce ++ u16 r.callTime ++ u8 r.unloadLimit ++ u8 r.loadLimit ++
    flagByte r.present ++ u8 r.state.code ++ fleetField r.called ++ timeField r.callEnd ++ timeField r.arrival ++
    fleetField r.bound ++ u8 r.queue.length ++ r.queue.flatMap (fun f => u16 f ++ flagByte (s.callable f)) ++
    u8 r.buffer0.state.code ++ u8 r.buffer1.state.code ++ numberField r.recent ++ u8 r.parity

/-- The rule of QueryDoor (R73). -/
def State.queryDoor (s : State) (d : Nat) : Answer :=
  if 47 < d then s.refuse .badValue else s.done (s.doorFields d)

/-- QUERY_DOOR (R73). -/
def execQueryDoor (tag : Byte) (d : Nat) (s : State) : Out :=
  .next (s.interpret (.queryDoor tag d) 0xB0 tag (·.queryDoor d))

/-- Every field of a trailer record (§4.3), the closing time, the switch time and the state code (R74). -/
def TrailerRec.queryFields (t : TrailerRec) : List Byte :=
  u16 t.fleet ++ u8 t.role.code ++ u8 t.origin ++ u8 t.near ++ depotField t.far ++ u8 t.cls ++
    timeField (t.window.map Prod.fst) ++ timeField (t.window.map Prod.snd) ++ u24 t.tdep ++ u16 t.closingLead ++
    u16 t.switchLead ++ timeField t.gate ++ timeField t.dock ++ u8 t.lapses ++ flagByte t.late ++ flagByte t.early ++
    u16 t.expected ++ u16 t.taken ++ u16 t.loaded ++ numberField t.door ++ numberField (t.buffer.map Prod.fst) ++
    numberField (t.buffer.map Prod.snd) ++ u24 t.closingTime ++ u24 t.switchTime ++ u8 t.state.code

/-- The rule of QueryTrailer (R74). -/
def State.queryTrailer (s : State) (fleet : Nat) : Answer :=
  match s.trailer? fleet with
  | none => s.refuse .unknown
  | some t => s.done t.queryFields

/-- QUERY_TRAILER (R74). -/
def execQueryTrailer (tag : Byte) (fleet : Nat) (s : State) : Out :=
  .next (s.interpret (.queryTrailer tag fleet) 0xB3 tag (·.queryTrailer fleet))

/-- The number of trailer records in a state. -/
def State.trailersIn (s : State) (st : TrailerState) : Nat := (s.trailers.filter (fun t => t.state == st)).length

/-- The summary of the trailer pool (R74). -/
def State.trailerSummary (s : State) : List Byte :=
  u8 s.trailers.length ++ u8 (Config.maxTrailers - s.trailers.length) ++
    [TrailerState.announced, .yard, .called, .unloading, .ready, .loading, .closing, .sealed, .emptied, .departed].flatMap
      (fun st => u8 (s.trailersIn st))

/-- QUERY_TRAILER_SUMMARY (R74). -/
def execQueryTrailerSummary (tag : Byte) (s : State) : Out :=
  .next (s.interpret (.queryTrailerSummary tag) 0xB3 tag (fun s => s.done s.trailerSummary))

/-- A depot record, its counters and its exhausted condition (R27). -/
def State.depotReply (s : State) (d : Nat) : List Byte :=
  let r := s.depot d
  u8 d ++ flagByte r.enabled ++ numberField r.home ++ listField r.group ++ flagByte r.priority ++ flagByte r.hasPriority ++
    u16 r.expected ++ u16 r.moving ++ u16 r.staged ++ u16 r.held ++ u16 r.loaded ++ u16 r.loadedTonight ++
    flagByte (s.exhausted d)

/-- The rule of QueryDepot (R27). -/
def State.queryDepot (s : State) (d : Nat) : Answer :=
  if depotCode d then s.done (s.depotReply d) else s.refuse .badValue

/-- QUERY_DEPOT (R27). -/
def execQueryDepot (tag : Byte) (d : Nat) (s : State) : Out :=
  .next (s.interpret (.queryDepot tag d) 0xB4 tag (·.queryDepot d))

/-! ### QueryPlan (R120, R175) -/

/-- An entry of a listed position (§10.7). -/
def Entry.fields (e : Entry) : List Byte :=
  u32 e.id ++ u16 e.weight ++ u8 e.height ++ u16 e.topLoad ++ u8 e.dest ++
    u8 (e.hazard.getD 0 + (if e.confirmed then 128 else 0))

/-- A position as QueryPlan lists it; an empty position is not listed (§10.7). -/
def positionField (row : Nat) (side : Side) (st : List Entry) : List Byte :=
  if st.isEmpty then [] else u8 row ++ u8 side.code ++ u8 st.length ++ st.flatMap Entry.fields

/-- The listed bytes of a row, and how many positions they list. -/
def PlanRow.listed (r : PlanRow) (row : Nat) : List Byte × Nat :=
  (positionField row .a r.a ++ positionField row .b r.b, (!r.a.isEmpty).toNat + (!r.b.isEmpty).toNat)

/-- What QueryPlan lists: the bytes, the last row listed and the number of positions listed. -/
structure Listing where
  bytes     : List Byte
  lastRow   : Nat
  positions : Nat
  deriving DecidableEq, Repr

/-- The listing of the rows from `row` on, whole rows only, as many as fit within `room` bytes (R175). -/
def listRows : (row room : Nat) → List PlanRow → Listing
  | _, _, [] => { bytes := [], lastRow := 0, positions := 0 }
  | row, room, r :: rest =>
    let x := r.listed row
    if x.1.length ≤ room then
      let l := listRows (row + 1) (room - x.1.length) rest
      { bytes := x.1 ++ l.bytes
        lastRow := if l.lastRow ≠ 0 then l.lastRow else if x.2 = 0 then 0 else row
        positions := x.2 + l.positions }
    else { bytes := [], lastRow := 0, positions := 0 }

/-- A class's figures as QueryPlan gives them.
The width of the rear axle group position: DESIGN CHOICE (log entry 11). -/
def ClassRec.figureFields (c : ClassRec) : List Byte :=
  u8 c.rows ++ u8 c.hmax ++ u16 c.wmax ++ u8 c.axleX ++ u16 c.kmax ++ u16 c.amax ++ u8 c.tiers ++ u16 (c.dlat.getD 0xFFFF) ++
    u8 c.pattern.code ++ flagByte c.flip

/-- The fields of a plan before its positions (R120): 40 bytes.
The 0xFF of an absent seal result, as in TrailerReport: DEDUCED (log entry 11). -/
def Plan.headFields (p : Plan) : List Byte :=
  u16 p.fleet ++ u8 p.classNo ++ p.figures.figureFields ++ u8 p.near ++ depotField p.far ++ u8 p.parity ++ u8 p.drop.code ++
    u8 p.openRow ++ u16 p.weight ++ u32 p.moment ++ u16 p.weightA ++ u16 p.weightB ++ u16 p.axleLoad ++ u16 p.kingpinLoad ++
    u8 p.reserved ++ u8 p.lost ++ flagByte p.loading ++ u8 ((p.sealResult.map SealResult.code).getD 0xFF)

/-- The number of a door's buffer that a selector names: the LIVE buffer, or the more recently frozen one (R60). -/
def DoorRec.selected (r : DoorRec) (selector : Nat) : Option Nat :=
  if selector = 0 then r.liveNo
  else r.recent.bind (fun b => if (r.buffer b).state = .frozen then some b else none)

/-- The reply to QueryPlan from a buffer (R120, R175): the body, result and link status bytes with it, stays within 1020 bytes. -/
def planReply (b : Nat) (state : BufferState) (p : Plan) (first : Nat) : List Byte :=
  let head := u8 b ++ u8 state.code ++ p.headFields
  let l := listRows first (Config.maxBody - (head.length + 4)) (p.rows.drop (first - 1))
  head ++ u8 l.lastRow ++ u8 l.positions ++ l.bytes

/-- The rule of QueryPlan (R120, R175).
A first row out of range is refused BAD_VALUE even where the door has no buffer in the state named: R120 and R175 give the two
checks no order. DESIGN CHOICE (log entry 9). -/
def State.queryPlan (s : State) (d selector : Nat) (first : Option Nat) : Answer :=
  if 47 < d ∨ 1 < selector ∨ within 1 16 (first.getD 1) = false then s.refuse .badValue
  else
    match (s.door d).selected selector with
    | none => s.refuse .notNow
    | some b =>
      match ((s.door d).buffer b).plan with
      | none => s.refuse .notNow
      | some p => s.done (planReply b ((s.door d).buffer b).state p (first.getD 1))

/-- QUERY_PLAN (R120, R175). -/
def execQueryPlan (tag : Byte) (d selector : Nat) (first : Option Nat) (s : State) : Out :=
  .next (s.interpret (.queryPlan tag d selector first) 0xB1 tag (·.queryPlan d selector first))

/-! ### QueryTruck (R148) -/

/-- A truck's place in the free-truck queue, the head being 1 (R148).
The 0 outside the queue: DESIGN CHOICE (log entry 11). -/
def State.placeInQueue (s : State) (t : Nat) : Nat :=
  if s.sched.freeQueue.contains t then s.sched.freeQueue.idxOf t + 1 else 0

/-- A truck record (R148). -/
def State.truckFields (s : State) (t : Nat) : List Byte :=
  let r := s.truck t
  u8 r.state.code ++ timeField r.freeSince ++ u8 (s.placeInQueue t) ++ locationField r.lastLoc ++ runFields r.run ++
    u8 (Run.marks r.run) ++ timeField r.offerEnd ++ taskFields (r.task.map (fun k => (t, k)))

/-- The rule of QueryTruck for one truck (R148). -/
def State.queryTruck (s : State) (t : Nat) : Answer :=
  if 31 < t then s.refuse .badValue else s.done (s.truckFields t)

/-- QUERY_TRUCK (R148). -/
def execQueryTruck (tag : Byte) (t : Nat) (s : State) : Out :=
  .next (s.interpret (.queryTruck tag t) 0xB2 tag (·.queryTruck t))

/-- The scheduler summary (R148). -/
def State.schedulerSummary (s : State) : List Byte :=
  listField s.sched.freeQueue ++ u8 s.tasks.length ++ s.tasks.flatMap (fun k => taskFields (some k)) ++ u8 s.sched.counter ++
    emit (dispatchFields s.sched.settings)

/-- QUERY_SCHEDULER_SUMMARY (R148). -/
def execQuerySchedulerSummary (tag : Byte) (s : State) : Out :=
  .next (s.interpret (.querySchedulerSummary tag) 0xB2 tag (fun s => s.done s.schedulerSummary))

/-! ### ReadExceptions (R165) and unknown commands (R173) -/

/-- An exception entry with its position, every field of §9.1 in order. -/
def ExcEntry.fields (e : ExcEntry) (position : Nat) : List Byte :=
  u8 position ++ u8 e.kind.code ++ u8 e.subject.typeCode ++ u32 e.subject.number ++ u8 e.count ++ u24 e.first ++ u24 e.last ++
    flagByte e.mark ++ u32 e.detail

/-- Entries with their positions, from the position given on. -/
def entryList : (position : Nat) → List ExcEntry → List Byte
  | _, [] => []
  | n, e :: rest => e.fields n ++ entryList (n + 1) rest

/-- The reply to ReadExceptions (R165). -/
def ExcList.readFields (l : ExcList) (start maximum : Nat) : List Byte :=
  u8 l.entries.length ++ u8 l.ordinary ++ flagByte l.overflow.isSome ++ u16 l.changes ++
    entryList start ((l.entries.drop (start - 1)).take maximum)

/-- The rule of ReadExceptions (R165). -/
def State.readExceptions (s : State) (start maximum : Nat) : Answer :=
  if within 1 64 start && within 1 32 maximum then s.done (s.exceptions.readFields start maximum)
  else s.refuse .badValue

/-- READ_EXCEPTIONS (R165). -/
def execReadExceptions (tag : Byte) (start maximum : Nat) (s : State) : Out :=
  .next (s.interpret (.readExceptions tag start maximum) 0xB8 tag (·.readExceptions start maximum))

/-- The reply kind of a frame that is answered BAD_FORM: the command's kind plus 0x80, or 0xBF for a kind not in the catalogue
(R173, R174).
DEDUCED (log entry 19). -/
def badFormKind (f : Frame) : Nat := if inCatalogue f.kind.toNat then f.kind.toNat + 0x80 else 0xBF

end Sys2Proof.Machine
end

