-- ==== Sys2Proof/Machine/StartUp.lean ====
section
/-!
DEFINITION. Power-on, the reset pin, the survey, Start, Restart and Identify (chapter 11).
-/

namespace Sys2Proof.Machine

/-! ### Reset (R182) -/

/-- The levels of the sense lines, which no reset changes. -/
def State.lines (s : State) : Table 48 Bool := s.doors.map DoorRec.line

/-- POWER_ON (R182). The levels of the sense lines, CD and CLR are what they are; commands that wait still wait.
The reset pin is not held after it, even where it was before: DESIGN CHOICE (log entry 1). -/
def execPowerOn (rate1 rate0 : Bool) (s : State) : Out :=
  .next (State.afterReset .power rate1 rate0 s.lines s.floor.cd s.floor.clr s.pending)

/-- RESET_PIN_RELEASE (R182). -/
def execResetPinRelease (rate1 rate0 : Bool) (s : State) : Out :=
  .next (State.afterReset .pin rate1 rate0 s.lines s.floor.cd s.floor.clr s.pending)

/-- The transmission of a floor frame or lead-in is cut off where it stands: KEY drops and nothing is sent, and the messages stay
in their queues. A frame being received is lost (R182). -/
def Floor.cutOff (f : Floor) : Floor :=
  let f := { f with rx := [] }
  if f.keyed then
    { f.keyDown .quiet none with
      replies := f.replies.map (fun w => { w with onAir := false })
      notices := f.notices.map (fun w => { w with onAir := false }) }
  else f

/-- RESET_PIN_ASSERT: a frame being sent, on either link, is cut off, and what has come of a frame being received is lost; nothing
else changes until the release (R182).
How the transmitter stands while the pin is held: DESIGN CHOICE (log entry 1). -/
def execResetPinAssert (s : State) : Out :=
  .next { s with
    startUp := { s.startUp with resetHeld := true }
    floor := s.floor.cutOff
    link := { s.link with sending := none, rx := [] } }

/-! ### The survey's end (R184) -/

/-- The survey ends: the flag clears, the enabled doors are set from their debounced levels (R49), and the phase becomes IDLE
after a Start. A phase time that the survey has seen reached is not acted on (R8, R181), so it is due no more.
The doors in ascending number: DESIGN CHOICE (log entry 25). -/
def State.endSurvey (s : State) : State :=
  let s := State.mark { s with
    startUp := { s.startUp with survey := none }
    due := s.due.filter (fun e => !e.event.isPhaseTime) } .phase
  let s := doorNumbers.foldl State.surveyDoor s
  if s.clock.phase = .unconfigured then s.setPhase .idle else s

/-- SURVEY_END (R184): the survey's count is complete. -/
def execSurveyEnd (s : State) : Out :=
  .next (if (s.startUp.survey.map PeriodCount.complete).getD false then s.acts State.endSurvey else s)

/-! ### Identify (R186) -/

/-- The rule of Identify (R186). -/
def State.identify (s : State) : Answer :=
  s.done (u16 0x7240 ++ u8 0x01 ++ u8 s.startUp.cause.code ++ u8 s.clock.phase.code ++ u8 s.identifyFlags)

/-- IDENTIFY (R186). -/
def execIdentify (tag : Byte) (s : State) : Out := .next (s.interpret (.identify tag) 0x81 tag State.identify)

/-! ### Start (R183) -/

/-- The depots' codes, ascending. -/
def depotCodes : List Nat := (List.range 127).map (· + 1)

/-- The first depot, ascending, whose lane group lists a lane not bound to it, with the first such lane (item 3 of R183). -/
def State.badGroup (s : State) : Option (Nat × Nat) :=
  depotCodes.findSome? (fun d => ((s.depot d).group.find? (fun l => !s.boundTo l d)).map (fun l => (d, l)))

/-- The first enabled depot, ascending, whose home door is not enabled, with that door (item 4 of R183). -/
def State.badHome (s : State) : Option (Nat × Nat) :=
  depotCodes.findSome? (fun d =>
    match s.depot d with
    | { enabled := true, home := some h, .. } => if (s.door h).enabled then none else some (d, h)
    | _ => none)

/-- The first check of Start that fails: its item code and the extra fields of the refusal (R183). -/
def State.startFailure (s : State) : Option (List Byte) :=
  if s.clock.valid = false then some (u8 1)
  else if s.clock.nightValid = false then some (u8 2)
  else
    match s.badGroup, s.badHome with
    | some (d, l), _ => some (u8 3 ++ u8 d ++ u8 l)
    | none, some (d, h) => some (u8 4 ++ u8 d ++ u8 h)
    | none, none =>
      if laneNumbers.any (fun l => (s.lane l).binding == .hold) then none else some (u8 5)

/-- The rule of Start (R183). -/
def State.start (s : State) : Answer :=
  s.unlessSurvey (
    if s.started then s.refuse .notNow
    else
      match s.startFailure with
      | some extra => s.refuse .conflict extra
      | none => (State.beginSurvey { s with startUp := { s.startUp with configured := true } }).done)

/-- START (R183). -/
def execStart (tag : Byte) (s : State) : Out := .next (s.interpret (.start tag) 0x8E tag State.start)

/-! ### Restart (R185, §11.3) -/

/-- A door at Restart (R45).
Its state and debounce stand until the survey ends: DEDUCED (log entry 14). -/
def DoorRec.restarted (r : DoorRec) : DoorRec :=
  { r with called := none, callEnd := none, arrival := none, bound := none, queue := [],
           buffer0 := Buffer.reset, buffer1 := Buffer.reset, recent := none, parity := 0 }

/-- A lane at Restart: its binding, capacity and high mark are kept (R75). -/
def LaneRec.restarted (r : LaneRec) : LaneRec :=
  { LaneRec.reset with binding := r.binding, capacity := r.capacity, high := r.high,
                       state := if r.isBound then .open_ else .off }

/-- A depot at Restart (R20). -/
def DepotRec.restarted (r : DepotRec) : DepotRec :=
  { r with expected := 0, moving := 0, staged := 0, held := 0, loaded := 0, loadedTonight := 0 }

/-- The floor channel at Restart (R160): a frame being sent is cut off, and the transmitter goes from KEYING or SENDING to
GUARD; a frame being received is discarded. -/
def Floor.restarted (f : Floor) : Floor :=
  let f := { f with
    leadIn := none, onAir := none, burst := 0, replies := [], notices := [], overrun := Table.fill 32 false,
    timeouts := 0, rx := [] }
  (if f.keyed then f.keyDown .guard (some f.settings.guardTime) else f).applyRate

/-- The notice that a frame in flight would give, after a Restart: it would find no record or no flag to act on (R179). -/
def Outgoing.voided (o : Outgoing) : Outgoing := { o with notice := .none }

/-- Every block's own Restart rule (R185, §11.3), the survey not yet begun.
DESIGN CHOICE where R185 is silent (log entry 16). -/
def State.restarted (s : State) : State :=
  { s with
    startUp := { s.startUp with cause := .restart }
    clock := { s.clock with phase := .idle, ending := false, rolledOver := false }
    due := s.due.filter (fun e => e.event.isPhaseTime)
    depots := s.depots.map DepotRec.restarted
    pallets := []
    doors := s.doors.map DoorRec.restarted
    trailers := []
    lanes := s.lanes.map LaneRec.restarted
    census := { s.census with group := Table.fill 4 GroupRec.reset }
    trucks := Table.fill 32 TruckRec.reset
    sched := { Scheduler.reset with settings := s.sched.settings }
    floor := s.floor.restarted
    exceptions := { entries := [], changes := 0 }
    link := { s.link with reports := [], sending := s.link.sending.map Outgoing.voided } }

/-- The subjects whose state Restart changes, which their own rules mark (R7, R55, R78, R148, R168): the phase where the phase
or the ending flag changes, and each door, lane, truck and census group record that changes, and the exception list when it
held an entry. Trailers send no report (R185). Which subjects these are, and their order in the report queue, kind by kind as here and by
ascending number within a kind: DESIGN CHOICE (log entry 16). -/
def State.restartMarks (s : State) : List Subject :=
  (if s.clock.phase != .idle || s.clock.ending then [.phase] else []) ++
    (doorNumbers.filter (fun d => s.door d != (s.door d).restarted)).map .door ++
    (laneNumbers.filter (fun l => s.lane l != (s.lane l).restarted)).map .lane ++
    (truckNumbers.filter (fun t => s.truck t != TruckRec.reset)).map .truck ++
    (if s.exceptions.entries.isEmpty then [] else [.exceptions]) ++
    (groupNumbers.filter (fun g => s.group g != GroupRec.reset)).map .census

/-- The rule of Restart (R185). -/
def State.restart (s : State) : Answer :=
  if s.started then s.unlessSurvey ((s.restartMarks.foldl State.mark s.restarted).beginSurvey).done
  else s.refuse .unconfigured

/-- RESTART (R185). -/
def execRestart (tag : Byte) (s : State) : Out := .next (s.interpret (.restart tag) 0x8F tag State.restart)

end Sys2Proof.Machine
end

