-- ==== Sys2Proof/Machine/Interpreter.lean ====
section
/-!
DEFINITION. The interpreter (R173): the rule that owns each command, the taking of a frame from the head of the receive queue, and
the events of the station link after which a frame may be taken.
-/

namespace Sys2Proof.Machine

/-- The rule that owns a command, with what follows in the same step (§10.4). A frame that carries no command is answered BAD_FORM
(R173); the rows that are no frames have no rule, and stand with it. -/
def Instr.rule : Instr → State → Answer
  | .identify _ => State.identify
  | .setClock _ time => (·.setClock time)
  | .setNight _ o t c e => (·.setNight o t c e)
  | .setTiming _ divisor => (·.setTiming divisor)
  | .setDispatch _ d => (·.setDispatch d)
  | .setChannel _ c => (·.setChannel c)
  | .setCensus _ p g tc => (·.setCensus p g tc)
  | .setClass _ n c => (·.setClass n c)
  | .setDoor _ d f => settling (·.setDoor d f)
  | .setLane _ l code capacity high => settling (·.setLane l code capacity high)
  | .setDepot _ d f => settling (·.setDepot d f)
  | .setRoute _ n p m d => (·.setRoute n p m d)
  | .clearRoute _ n => (·.clearRoute n)
  | .clearRouteAll _ => State.clearRoutes
  | .start _ => State.start
  | .restart _ => State.restart
  | .advancePhase _ => State.advancePhase
  | .announce _ a => (·.announce a)
  | .manifest _ fleet count entries excess => (·.manifest fleet count entries excess)
  | .gateArrival _ fleet => (·.gateArrival fleet)
  | .amendTrailer _ fleet a => settling (·.amendTrailer fleet a)
  | .atDoor _ d fleet => settling (·.atDoor d fleet)
  | .endUnload _ fleet => settling (·.endUnload fleet)
  | .switchDrop _ fleet => settling (·.switchDrop fleet)
  | .closeTrailer _ fleet => settling (·.closeTrailer fleet)
  | .cancelTrailer _ fleet => settling (·.cancelTrailer fleet)
  | .queryPallet _ p => (·.queryPallet p)
  | .queryPalletSummary _ => fun s => s.done s.palletSummary
  | .holdOnArrival _ p => (·.holdOnArrival p)
  | .releaseHeld _ p dest => settling (·.releaseHeld p dest)
  | .queryLane _ l => (·.queryLane l)
  | .queryCensusSummary _ => fun s => s.done s.censusSummary
  | .censusNowLane _ l => settling (·.censusNowLane l)
  | .censusNowGroup _ g => settling (·.censusNowGroup g)
  | .censusResult _ l count ids excess => settling (·.censusResult l count ids excess)
  | .queryDoor _ d => (·.queryDoor d)
  | .queryPlan _ d selector first => (·.queryPlan d selector first)
  | .queryTruck _ t => (·.queryTruck t)
  | .querySchedulerSummary _ => fun s => s.done s.schedulerSummary
  | .queryTrailer _ fleet => (·.queryTrailer fleet)
  | .queryTrailerSummary _ => fun s => s.done s.trailerSummary
  | .queryDepot _ d => (·.queryDepot d)
  | .readExceptions _ start maximum => (·.readExceptions start maximum)
  | .clearException _ kind type number guardCount => (·.clearException kind type number guardCount)
  | .clearExceptionAll _ => State.clearExceptions
  | .unknownCommand _ | .powerOn .. | .resetPinRelease .. | .tick | .phaseTimeReached _ | .senseLineChange .. | .lineEvent _
  | .callTimerEnd _ | .windowStartReached _ | .closingTimeReached _ | .switchTimeReached _ | .tdepReached _ | .censusDueTime _
  | .censusTimeout _ | .offerTimerEnd _ | .taskDeadline _ | .logon _ | .logoff _ | .takeBreak _ | .resume _ | .accept _
  | .decline _ | .take .. | .drop .. | .runEnd _ | .emptyTrailer _ | .floorFrameDiscarded _ | .floorByteGapTimeout
  | .clrAsserted | .cdAsserted | .cdClears | .clearTimerExpiry | .holdoffEnd | .guardTimeEnd | .leadInSent | .floorFrameSent
  | .stationFrameComplete _ | .frameDiscarded _ | .stationByteGapTimeout _ | .stationFrameSent | .surveyEnd
  | .resetPinAssert => fun s => s.refuse .badForm

/-- A frame is interpreted whole: the rule that owns its command answers, the reply fills the slot, and its transmission begins when
the transmitter is idle (R173, R177). -/
def State.interpretFrame (s : State) (f : Frame) : State :=
  ((Instr.rule f.command s).reply (badFormKind f) f.tag).chooseFrame

/-- The interpreter takes the head of the receive queue when the slot is empty (R173). -/
def State.interpretHead (s : State) : State :=
  match s.link.slot, s.link.receive with
  | none, f :: rest => State.interpretFrame { s with link := { s.link with receive := rest } } f
  | _, _ => s

/-- Frames are taken as long as the slot is empty (R173): after one reply has gone to the transmitter a second fills the slot, so
no more than two are taken in a step. -/
def State.interpretAll (s : State) : State := s.interpretHead.interpretHead

/-- UNKNOWN_COMMAND: a complete frame that carries no command is answered BAD_FORM (R173).
A frame that does carry one is answered by its rule: DESIGN CHOICE (log entry 19). -/
def execUnknownCommand (f : Frame) (s : State) : Out :=
  .next (s.interpret (.unknownCommand f) (badFormKind f) f.tag (Instr.rule f.command))

/-- Bytes at the station receiver, and the interpretation of the frames they complete (R171 to R173). -/
def State.stationBytes (s : State) (bytes : List Byte) : State :=
  bytes.foldl (fun s b => if s.startUp.resetHeld then s else (s.stationByte b).interpretAll) s

/-- STATION_FRAME_COMPLETE: the bytes of a complete frame arrive (R171 to R173). -/
def execStationFrameComplete (bytes : List Byte) (s : State) : Out := .next (s.stationBytes bytes)

/-- FRAME_DISCARDED: bytes that make no complete frame arrive (R171). -/
def execFrameDiscarded (bytes : List Byte) (s : State) : Out := .next (s.stationBytes bytes)

/-- STATION_FRAME_SENT: the notices of the frame just ended, the choice of the next, and the interpretation of a waiting frame when
that choice has emptied the slot (R173, R177, R179). -/
def execStationFrameSent (s : State) : Out :=
  .next (
    if s.startUp.resetHeld then s
    else
      match s.link.sending with
      | none => s
      | some o =>
        ((State.sentNotice { s with link := { s.link with sending := none } } o.notice).chooseFrame).interpretAll)

end Sys2Proof.Machine
end

