-- ==== Sys2Proof/Machine/TimeEvents.lean ====
section
/-!
DEFINITION. The tick and the events of stored times (R1, R4), and the door sense lines (R47, R48).
-/

namespace Sys2Proof.Machine

/-- TICK (R1, R2, R4). -/
def execTick (s : State) : Out := .next (if s.startUp.resetHeld then s else s.tick)

/-- What the part does while no command waits: one reference clock period passes (R1), unless the reset pin is held (R182).
DESIGN CHOICE (log entry 2). -/
def State.idle (s : State) : State := if s.startUp.resetHeld then s else s.period

/-- A phase time reached (R8): it moves the phase on when it is reached in the phase before it and no survey runs. -/
def State.phaseTime (s : State) (t : NightTime) : State :=
  if s.surveying then s
  else
    match t, s.clock.phase with
    | .topen, .idle | .ttransfer, .intake | .tclose, .transfer | .tend, .close => s.nextPhase
    | _, _ => s

/-- PHASE_TIME_REACHED (R8). -/
def execPhaseTimeReached (t : NightTime) (s : State) : Out := .next (s.timed (.phaseTime t) (·.phaseTime t))

/-- The call of door `d` lapses (R57). The call check follows at once, so that a line event of the same second taken after it
finds no expected trailer only where that check calls none: DEDUCED (log entry 26). -/
def State.lapse (s : State) (d : Nat) : State :=
  match (s.door d).state, (s.door d).called with
  | .called, some f =>
    let lapses := ((s.trailer? f).map TrailerRec.lapses).getD 0 + 1
    let s :=
      if lapses = 1 then
        (s.touchTrailer f (fun t => { t with lapses := lapses, state := .yard })).touchDoor d
          (fun r => { r with queue := r.queue ++ [f] })
      else
        (s.touchTrailer f (fun t => { t with lapses := lapses, state := .announced, door := none })).raise .callLapsed
          (.trailer f) d
    s.freeDoor d
  | _, _ => s

/-- CALL_TIMER_END (R57). -/
def execCallTimerEnd (d : Nat) (s : State) : Out := .next (s.timed (.callTimer d) (·.lapse d))

/-- WINDOW_START_REACHED (R55, R56): the call check for the queued trailer's door. -/
def execWindowStartReached (fleet : Nat) (s : State) : Out :=
  .next (s.timed (.windowStart fleet) (fun s =>
    match s.trailer? fleet with
    | some { door := some d, .. } => s.callCheck d
    | _ => s))

/-- CLOSING_TIME_REACHED (R65). -/
def execClosingTimeReached (fleet : Nat) (s : State) : Out := .next (s.timed (.closing fleet) (·.becomeClosing fleet))

/-- SWITCH_TIME_REACHED (R67). -/
def execSwitchTimeReached (fleet : Nat) (s : State) : Out := .next (s.timed (.switch fleet) (·.switchNotice fleet))

/-- LATE_DEPARTURE for a trailer in any state but DEPARTED (R71). -/
def State.lateDeparture (s : State) (fleet : Nat) : State :=
  match s.trailer? fleet with
  | some t => if t.state = .departed then s else s.raise .lateDeparture (.trailer fleet) t.state.code
  | none => s

/-- TDEP_REACHED (R71). -/
def execTdepReached (fleet : Nat) (s : State) : Out := .next (s.timed (.tdep fleet) (·.lateDeparture fleet))

/-- CENSUS_DUE_TIME (R90). -/
def execCensusDueTime (g : Nat) (s : State) : Out := .next (s.timed (.censusDue g) (·.censusDue g))

/-- CENSUS_TIMEOUT (R96). -/
def execCensusTimeout (g : Nat) (s : State) : Out := .next (s.timed (.censusTimeout g) (·.timeOutCensus g))

/-- An offer lapses: it ends, and the truck becomes ABSENT, outside the queue (R132). -/
def State.offerLapses (s : State) (t : Nat) : State :=
  if (s.truck t).state = .offered then (s.endOffer t).touchTruck t (fun r => { r with state := .absent }) else s

/-- OFFER_TIMER_END (R132). -/
def execOfferTimerEnd (t : Nat) (s : State) : Out := .next (s.timed (.offer t) (·.offerLapses t))

/-- TASK_DEADLINE (R144). -/
def execTaskDeadline (t : Nat) (s : State) : Out := .next (s.timed (.deadline t) (·.expire t))

/-! ### The door sense lines (R47, R48) -/

/-- SENSE_LINE_CHANGE: the line of door `d` has the level given, and its count begins, goes on or is abandoned (R47). -/
def execSenseLineChange (d : Nat) (high : Bool) (s : State) : Out :=
  .next (
    if s.startUp.resetHeld then s.modDoor d (fun r => { r with line := high })
    else s.modDoor d (fun r => DoorRec.sensed { r with line := high } s.clock.divisor))

/-- The line event of door `d`: the debounced level follows the reading, and an enabled door acts on it outside UNCONFIGURED and
the survey (R47, R48). -/
def State.takeLine (s : State) (d : Nat) : State :=
  let s := s.modDoor d (fun r => { r with present := !r.present, count := none })
  if s.started = false ∨ s.surveying = true then s
  else if (s.door d).present then s.linePresent d
  else s.lineAbsent d

/-- LINE_EVENT (R47, R48): the debounce count of door `d` is complete. -/
def execLineEvent (d : Nat) (s : State) : Out :=
  .next (if ((s.door d).count.map PeriodCount.complete).getD false then s.acts (·.takeLine d) else s)

end Sys2Proof.Machine
end

