-- ==== Sys2Proof/Machine/Dispatch.lean ====
section
/-!
DEFINITION. The meaning of every command and event: one arm for each constructor of `Instr`, in the table's order.
-/

namespace Sys2Proof.Machine

/-- What a command or an event does to the state, the queue of waiting commands apart. -/
def exec (i : Instr) (s : State) : Host.Outcome State Fault Refusal :=
  match i with
  | .powerOn rate1 rate0 => Sys2Proof.Machine.execPowerOn rate1 rate0 s
  | .resetPinRelease rate1 rate0 => Sys2Proof.Machine.execResetPinRelease rate1 rate0 s
  | .tick => Sys2Proof.Machine.execTick s
  | .phaseTimeReached time => Sys2Proof.Machine.execPhaseTimeReached time s
  | .senseLineChange door high => Sys2Proof.Machine.execSenseLineChange door high s
  | .lineEvent door => Sys2Proof.Machine.execLineEvent door s
  | .callTimerEnd door => Sys2Proof.Machine.execCallTimerEnd door s
  | .windowStartReached fleet => Sys2Proof.Machine.execWindowStartReached fleet s
  | .closingTimeReached fleet => Sys2Proof.Machine.execClosingTimeReached fleet s
  | .switchTimeReached fleet => Sys2Proof.Machine.execSwitchTimeReached fleet s
  | .tdepReached fleet => Sys2Proof.Machine.execTdepReached fleet s
  | .censusDueTime group => Sys2Proof.Machine.execCensusDueTime group s
  | .censusTimeout group => Sys2Proof.Machine.execCensusTimeout group s
  | .offerTimerEnd truck => Sys2Proof.Machine.execOfferTimerEnd truck s
  | .taskDeadline truck => Sys2Proof.Machine.execTaskDeadline truck s
  | .logon truck => Sys2Proof.Machine.execLogon truck s
  | .logoff truck => Sys2Proof.Machine.execLogoff truck s
  | .takeBreak truck => Sys2Proof.Machine.execBreak truck s
  | .resume truck => Sys2Proof.Machine.execResume truck s
  | .accept truck => Sys2Proof.Machine.execAccept truck s
  | .decline truck => Sys2Proof.Machine.execDecline truck s
  | .take truck pallet label => Sys2Proof.Machine.execTake truck pallet label s
  | .drop truck pallet at_ => Sys2Proof.Machine.execDrop truck pallet at_ s
  | .runEnd truck => Sys2Proof.Machine.execRunEnd truck s
  | .emptyTrailer truck => Sys2Proof.Machine.execEmptyTrailer truck s
  | .floorFrameDiscarded bytes => Sys2Proof.Machine.execFloorFrameDiscarded bytes s
  | .floorByteGapTimeout => Sys2Proof.Machine.execFloorByteGapTimeout s
  | .clrAsserted => Sys2Proof.Machine.execClrAsserted s
  | .cdAsserted => Sys2Proof.Machine.execCdAsserted s
  | .cdClears => Sys2Proof.Machine.execCdClears s
  | .clearTimerExpiry => Sys2Proof.Machine.execClearTimerExpiry s
  | .holdoffEnd => Sys2Proof.Machine.execHoldoffEnd s
  | .guardTimeEnd => Sys2Proof.Machine.execGuardTimeEnd s
  | .leadInSent => Sys2Proof.Machine.execLeadInSent s
  | .floorFrameSent => Sys2Proof.Machine.execFloorFrameSent s
  | .stationFrameComplete bytes => Sys2Proof.Machine.execStationFrameComplete bytes s
  | .frameDiscarded bytes => Sys2Proof.Machine.execFrameDiscarded bytes s
  | .stationByteGapTimeout gap => Sys2Proof.Machine.execStationByteGapTimeout gap s
  | .stationFrameSent => Sys2Proof.Machine.execStationFrameSent s
  | .surveyEnd => Sys2Proof.Machine.execSurveyEnd s
  | .identify tag => Sys2Proof.Machine.execIdentify tag s
  | .setClock tag time => Sys2Proof.Machine.execSetClock tag time s
  | .setNight tag topen ttransfer tclose tend => Sys2Proof.Machine.execSetNight tag topen ttransfer tclose tend s
  | .setTiming tag divisor => Sys2Proof.Machine.execSetTiming tag divisor s
  | .setDispatch tag settings => Sys2Proof.Machine.execSetDispatch tag settings s
  | .setChannel tag settings => Sys2Proof.Machine.execSetChannel tag settings s
  | .setCensus tag interval groups timeout => Sys2Proof.Machine.execSetCensus tag interval groups timeout s
  | .setClass tag cls fields => Sys2Proof.Machine.execSetClass tag cls fields s
  | .setDoor tag door fields => Sys2Proof.Machine.execSetDoor tag door fields s
  | .setLane tag lane binding capacity high => Sys2Proof.Machine.execSetLane tag lane binding capacity high s
  | .setDepot tag depot fields => Sys2Proof.Machine.execSetDepot tag depot fields s
  | .setRoute tag entry pat mask depot => Sys2Proof.Machine.execSetRoute tag entry pat mask depot s
  | .clearRoute tag entry => Sys2Proof.Machine.execClearRoute tag entry s
  | .clearRouteAll tag => Sys2Proof.Machine.execClearRouteAll tag s
  | .start tag => Sys2Proof.Machine.execStart tag s
  | .restart tag => Sys2Proof.Machine.execRestart tag s
  | .advancePhase tag => Sys2Proof.Machine.execAdvancePhase tag s
  | .announce tag fields => Sys2Proof.Machine.execAnnounce tag fields s
  | .manifest tag fleet count entries excess => Sys2Proof.Machine.execManifest tag fleet count entries excess s
  | .gateArrival tag fleet => Sys2Proof.Machine.execGateArrival tag fleet s
  | .amendTrailer tag fleet fields => Sys2Proof.Machine.execAmendTrailer tag fleet fields s
  | .atDoor tag door fleet => Sys2Proof.Machine.execAtDoor tag door fleet s
  | .endUnload tag fleet => Sys2Proof.Machine.execEndUnload tag fleet s
  | .switchDrop tag fleet => Sys2Proof.Machine.execSwitchDrop tag fleet s
  | .closeTrailer tag fleet => Sys2Proof.Machine.execCloseTrailer tag fleet s
  | .cancelTrailer tag fleet => Sys2Proof.Machine.execCancelTrailer tag fleet s
  | .queryPallet tag pallet => Sys2Proof.Machine.execQueryPallet tag pallet s
  | .queryPalletSummary tag => Sys2Proof.Machine.execQueryPalletSummary tag s
  | .holdOnArrival tag pallet => Sys2Proof.Machine.execHoldOnArrival tag pallet s
  | .releaseHeld tag pallet dest => Sys2Proof.Machine.execReleaseHeld tag pallet dest s
  | .queryLane tag lane => Sys2Proof.Machine.execQueryLane tag lane s
  | .queryCensusSummary tag => Sys2Proof.Machine.execQueryCensusSummary tag s
  | .censusNowLane tag lane => Sys2Proof.Machine.execCensusNowLane tag lane s
  | .censusNowGroup tag group => Sys2Proof.Machine.execCensusNowGroup tag group s
  | .censusResult tag lane count pallets excess => Sys2Proof.Machine.execCensusResult tag lane count pallets excess s
  | .queryDoor tag door => Sys2Proof.Machine.execQueryDoor tag door s
  | .queryPlan tag door selector first => Sys2Proof.Machine.execQueryPlan tag door selector first s
  | .queryTruck tag truck => Sys2Proof.Machine.execQueryTruck tag truck s
  | .querySchedulerSummary tag => Sys2Proof.Machine.execQuerySchedulerSummary tag s
  | .queryTrailer tag fleet => Sys2Proof.Machine.execQueryTrailer tag fleet s
  | .queryTrailerSummary tag => Sys2Proof.Machine.execQueryTrailerSummary tag s
  | .queryDepot tag depot => Sys2Proof.Machine.execQueryDepot tag depot s
  | .readExceptions tag start maximum => Sys2Proof.Machine.execReadExceptions tag start maximum s
  | .clearException tag kind subjectType subject guardCount => Sys2Proof.Machine.execClearException tag kind subjectType subject guardCount s
  | .clearExceptionAll tag => Sys2Proof.Machine.execClearExceptionAll tag s
  | .unknownCommand frame => Sys2Proof.Machine.execUnknownCommand frame s
  | .resetPinAssert => Sys2Proof.Machine.execResetPinAssert s

end Sys2Proof.Machine
end

