-- ==== Sys2Proof/Machine/Step.lean ====
section
/-!
DEFINITION. One step of the part: the command or event at the front of the queue, or, when none waits, one reference clock
period.
-/

namespace Sys2Proof.Machine

/-- One step: the command at the front of the queue with the queue's rest, or the idle step. -/
def step (s : State) : Host.Outcome State Fault Refusal :=
  match s.pending with
  | [] => .next s.idle
  | c :: rest => exec c { s with pending := rest }

/-- The state with the command that a word spells at the front of its queue. The table gives no row any bits, so no word spells
one and the state is unchanged.
DESIGN CHOICE (log entry 24). -/
def State.withFetchWord (s : State) (nbits w : Nat) : State :=
  match decodeTableWord nbits w with
  | some c => { s with pending := c :: s.pending }
  | none => s

end Sys2Proof.Machine
end

