-- ==== Sys2Proof/WellFormed.lean ====
section
/-!
DEFINITION. When a command's operands can be carried by what carries it: a field fits its width (§10.6), an absent form is
spelled one way, a frame's body has at most 1020 bytes (R171), and a number of a pin, a timer or a terminal names one that
exists (§2.2). Values that fit and are out of a rule's range are well-formed: the rule answers them itself.
-/

namespace Sys2Proof

/-- Whether a number fits a field of `w` bytes. -/
def fits (w n : Nat) : Bool := decide (n < 256 ^ w)

/-- Whether an optional field fits `w` bytes and does not spell its own absent form `x`. -/
def fitsOr (w x : Nat) : Option Nat → Bool
  | none => true
  | some n => fits w n && n != x

/-- Whether a label's fields fit a label block (§10.7). -/
def Label.fits (l : Label) : Bool :=
  Sys2Proof.fits 2 l.weight && Sys2Proof.fits 1 l.height && Sys2Proof.fits 2 l.topLoad && Sys2Proof.fits 1 l.hazard &&
    decide (l.cls < 4)

/-- Whether the dispatch settings fit (§10.6). -/
def DispatchSettings.fits (d : DispatchSettings) : Bool := (dispatchFields d).all (fun f => Sys2Proof.fits f.1 f.2)

/-- Whether the channel settings fit (§10.6). -/
def ChannelSettings.fits (c : ChannelSettings) : Bool := (channelFields c).all (fun f => Sys2Proof.fits f.1 f.2)

/-- Whether the class fields fit (§10.6). -/
def ClassFields.fits (c : ClassFields) : Bool :=
  Sys2Proof.fits 1 c.rows && Sys2Proof.fits 1 c.hmax && Sys2Proof.fits 2 c.wmax && Sys2Proof.fits 1 c.axleX &&
    Sys2Proof.fits 2 c.kmax && Sys2Proof.fits 2 c.amax && Sys2Proof.fits 1 c.tiers && fitsOr 2 0xFFFF c.dlat &&
    Sys2Proof.fits 1 c.pattern

/-- Whether the door fields fit (§10.6). -/
def DoorFields.fits (d : DoorFields) : Bool :=
  Sys2Proof.fits 1 d.polarity && Sys2Proof.fits 2 d.debounce && Sys2Proof.fits 2 d.callTime &&
    Sys2Proof.fits 1 d.unloadLimit && Sys2Proof.fits 1 d.loadLimit

/-- Whether the depot fields fit (§10.6). -/
def DepotFields.fits (d : DepotFields) : Bool :=
  fitsOr 1 0xFF d.home && Sys2Proof.fits 1 d.group.length && d.group.all (Sys2Proof.fits 1)

/-- Whether the fields of an Announce fit (§10.6). -/
def AnnounceFields.fits (a : AnnounceFields) : Bool :=
  Sys2Proof.fits 2 a.fleet && Sys2Proof.fits 1 a.role && Sys2Proof.fits 1 a.origin && Sys2Proof.fits 1 a.near &&
    fitsOr 1 0 a.far && Sys2Proof.fits 1 a.cls &&
    (a.window.map (fun w => Sys2Proof.fits 3 w.1 && Sys2Proof.fits 3 w.2 && w != (0xFFFFFF, 0xFFFFFF))).getD true &&
    Sys2Proof.fits 3 a.tdep && Sys2Proof.fits 2 a.closingLead && Sys2Proof.fits 2 a.switchLead

/-- Whether the changes of an AmendTrailer fit (§10.7). -/
def AmendFields.fits (a : AmendFields) : Bool :=
  (a.tdep.map (Sys2Proof.fits 3)).getD true && (a.closingLead.map (Sys2Proof.fits 2)).getD true &&
    (a.switchLead.map (Sys2Proof.fits 2)).getD true && (a.far.map (Sys2Proof.fits 1)).getD true

/-- Whether a number names a door. -/
def isDoor (n : Nat) : Bool := decide (n < 48)

/-- Whether a number names a lift truck. -/
def isTruck (n : Nat) : Bool := decide (n < 32)

/-- Whether a number names a census group record. -/
def isGroup (n : Nat) : Bool := decide (n < 4)

/-- Whether a number is a fleet number. -/
def isFleet (n : Nat) : Bool := decide (0 < n) && fits 2 n

/-- Whether a location names a door or a lane that exists (§8.5). -/
def Location.names : Location → Bool
  | .door n => isDoor n
  | .lane n => decide (n < 96)

/-- Whether a command is well-formed: what carries it can spell it. -/
def Instr.wellFormed : Instr → Bool
  | .powerOn .. | .resetPinRelease .. | .resetPinAssert | .tick | .phaseTimeReached _ | .surveyEnd => true
  | .senseLineChange d _ | .lineEvent d | .callTimerEnd d => isDoor d
  | .windowStartReached f | .closingTimeReached f | .switchTimeReached f | .tdepReached f => isFleet f
  | .censusDueTime g | .censusTimeout g => isGroup g
  | .offerTimerEnd t | .taskDeadline t => isTruck t
  | .logon t | .logoff t | .takeBreak t | .resume t | .accept t | .decline t | .runEnd t | .emptyTrailer t => isTruck t
  | .take t p l => isTruck t && fits 4 p && (l.map Label.fits).getD true
  | .drop t p x => isTruck t && fits 4 p && x.names
  | .floorFrameDiscarded bytes => (floorReceive bytes).isNone
  | .floorByteGapTimeout => true
  | .clrAsserted | .cdAsserted | .cdClears | .clearTimerExpiry | .holdoffEnd | .guardTimeEnd | .leadInSent
  | .floorFrameSent => true
  | .stationFrameComplete bytes => match gather bytes with | .frame _ => true | _ => false
  | .frameDiscarded bytes => match gather bytes with | .overLong | .badCrc => true | _ => false
  | .stationByteGapTimeout _ | .stationFrameSent => true
  | .identify _ | .clearRouteAll _ | .start _ | .restart _ | .advancePhase _ | .queryPalletSummary _
  | .queryCensusSummary _ | .querySchedulerSummary _ | .queryTrailerSummary _ | .clearExceptionAll _ => true
  | .setClock _ t => fits 3 t
  | .setNight _ o t c e => fits 3 o && fits 3 t && fits 3 c && fits 3 e
  | .setTiming _ d => fits 4 d
  | .setDispatch _ d => d.fits
  | .setChannel _ c => c.fits
  | .setCensus _ p g t => fits 2 p && fits 1 g && fits 2 t
  | .setClass _ n c => fits 1 n && c.fits
  | .setDoor _ d f => fits 1 d && f.fits
  | .setLane _ l b c h => fits 1 l && fits 1 b && fits 1 c && fits 1 h
  | .setDepot _ d f => fits 1 d && f.fits
  | .setRoute _ n p m d => fits 2 n && fits 3 p && fits 3 m && fits 1 d
  | .clearRoute _ n => fits 2 n
  | .announce _ a => a.fits
  | .manifest _ f n es x =>
    fits 2 f && fits 1 n && es.all (fun e => fits 4 e.id && e.label.fits) && decide (x < 14) &&
      decide (3 + 14 * es.length + x ≤ Config.maxBody)
  | .gateArrival _ f | .endUnload _ f | .switchDrop _ f | .closeTrailer _ f | .cancelTrailer _ f => fits 2 f
  | .amendTrailer _ f a => fits 2 f && a.fits
  | .atDoor _ d f => fits 1 d && fits 2 f
  | .queryPallet _ p => fits 4 p && p != 0
  | .holdOnArrival _ p => fits 4 p
  | .releaseHeld _ p d => fits 4 p && (d.map (fits 1)).getD true
  | .queryLane _ l => fits 1 l && l != 255
  | .censusNowLane _ l => fits 1 l
  | .censusNowGroup _ g => fits 1 g
  | .censusResult _ l n ps x =>
    fits 1 l && fits 1 n && ps.all (fits 4) && decide (x < 4) && decide (2 + 4 * ps.length + x ≤ Config.maxBody)
  | .queryDoor _ d => fits 1 d
  | .queryPlan _ d sel r => fits 1 d && fits 1 sel && (r.map (fits 1)).getD true
  | .queryTruck _ t => fits 1 t && t != 255
  | .queryTrailer _ f => fits 2 f && f != 0
  | .queryDepot _ d => fits 1 d
  | .readExceptions _ p m => fits 1 p && fits 1 m
  | .clearException _ k t n g => fits 1 k && fits 1 t && fits 4 n && fits 1 g
  | .unknownCommand f => decide (f.command = .unknownCommand f) && decide (f.body.length ≤ Config.maxBody)

end Sys2Proof
end

