-- ==== Sys2Proof/Safety.lean ====
section
/-!
DEFINITION. What a good state is, in the manual's words, and the words in which statements about commands are made: when the
interpreter takes a command, and the state that a reply leaves.
-/

namespace Sys2Proof.Machine

/-! ### When an event or a command acts -/

/-- The reset pin is not held (R182). -/
def State.live (s : State) : Bool := !s.startUp.resetHeld

/-- The interpreter takes command `_c` as its frame arrives: the reset pin is not held, the reply slot is empty and no other frame
waits (R173). -/
def State.takes (s : State) (_c : Instr) : Bool := s.live && s.link.slot.isNone && s.link.receive.isEmpty

/-- A message of truck `t` that needs a reply reaches the scheduler: it is received, and a reply slot is free (R150, R151). -/
def State.slotFor (s : State) (t : Nat) : Bool := s.hears t && s.replySlotFree

/-! ### Replies (R173, R174, R177) -/

/-- The frame of a reply whose transmission begins while the link's flags are as `l` has them (R174). -/
def Link.replyFrame (l : Link) (kind tag : Byte) (r : Result) (fields : List Byte) : Frame :=
  { kind := kind, tag := tag,
    body := BitVec.ofNat 8 r.code :: BitVec.ofNat 8 (l.discarded.toNat + 2 * l.overrun.toNat) :: fields }

/-- The link once a command has been taken and its reply has filled the slot: the command's frame has left the queue and the
receiver is out of frame, and the reply is being sent when the transmitter was idle and stands in the slot when it was not. Of the
flags that a reply carries, OVERRUN stays set while 32 frames wait (R174); that it is then the next reply beginning with fewer that
clears it is the model's: DESIGN CHOICE (log entry 28). -/
def Link.replying (l : Link) (kind tag : Byte) (r : Result) (fields : List Byte) : Link :=
  match l.sending with
  | some _ =>
    { l with rx := [], receive := l.receive.tail, slot := some { kind := kind, tag := tag, result := r, fields := fields } }
  | none =>
    { l with
      rx := [], receive := l.receive.tail, discarded := false,
      overrun := l.overrun && decide (32 ≤ l.receive.tail.length),
      sending := some { frame := l.replyFrame kind tag r fields, notice := .none } }

/-- The state with the reply made. -/
def State.replied (s : State) (kind tag : Byte) (r : Result) (fields : List Byte) : State :=
  { s with link := s.link.replying kind tag r fields }

/-- The reply that state `t` shows for a command taken in state `s`: being sent when the transmitter was idle, and in the slot
when it was not. -/
def State.shows (s t : State) (kind tag : Byte) (r : Result) (fields : List Byte) : Bool :=
  match s.link.sending with
  | some _ => t.link.slot == some { kind := kind, tag := tag, result := r, fields := fields }
  | none => t.link.sending == some { frame := s.link.replyFrame kind tag r fields, notice := .none }

/-- The command that a row of the depot computer brings: its own, or, for a frame, the one the frame carries. -/
def Instr.carried : Instr → Instr
  | .unknownCommand f => f.command
  | c => c

/-- The queries, which the survey does not refuse (R181). -/
def Instr.isQuery (c : Instr) : Bool :=
  match Instr.carried c with
  | .identify _ | .queryPallet .. | .queryPalletSummary _ | .queryLane .. | .queryCensusSummary _ | .queryDoor ..
  | .queryPlan .. | .queryTruck .. | .querySchedulerSummary _ | .queryTrailer .. | .queryTrailerSummary _ | .queryDepot ..
  | .readExceptions .. => true
  | _ => false

/-- Whether a command is a Manifest, the one command that a refusal, FULL, finds partly done (R30). -/
def Instr.isManifest (c : Instr) : Bool :=
  match Instr.carried c with
  | .manifest .. => true
  | _ => false

/-- The lift truck that sends a floor message (§8.5). -/
def Instr.sender : Instr → Option Nat
  | .logon t | .logoff t | .takeBreak t | .resume t | .accept t | .decline t | .take t .. | .drop t .. | .runEnd t
  | .emptyTrailer t => some t
  | _ => none

/-- Whether a floor message needs a reply: Logon, Accept, Take and Drop do (R151). -/
def Instr.needsReply : Instr → Bool
  | .logon _ | .accept _ | .take .. | .drop .. => true
  | _ => false

/-- The stored time whose event a command is (R4). -/
def Instr.timeEvent : Instr → Option TimeEvent
  | .phaseTimeReached t => some (.phaseTime t)
  | .callTimerEnd d => some (.callTimer d)
  | .windowStartReached f => some (.windowStart f)
  | .closingTimeReached f => some (.closing f)
  | .switchTimeReached f => some (.switch f)
  | .tdepReached f => some (.tdep f)
  | .censusDueTime g => some (.censusDue g)
  | .censusTimeout g => some (.censusTimeout g)
  | .offerTimerEnd t => some (.offer t)
  | .taskDeadline t => some (.deadline t)
  | _ => none

/-- What an event of the pins comes with while the reset pin is held: power-on, the pin itself, and the level of a sense line or of
one of the modem's lines. -/
def Instr.ofPins : Instr → Bool
  | .powerOn .. | .resetPinRelease .. | .resetPinAssert | .senseLineChange .. | .clrAsserted | .cdAsserted | .cdClears => true
  | _ => false

/-- Whether an event is a reset: power-on, or the release of the reset pin (R182). -/
def Instr.resets : Instr → Bool
  | .powerOn .. | .resetPinRelease .. => true
  | _ => false

/-- The kind of the reply to a frame: the command's kind plus 0x80, or 0xBF for a kind that is not in the catalogue (R174). -/
def Frame.replyKind (f : Frame) : Byte := if inCatalogue f.kind.toNat then f.kind + 0x80#8 else 0xBF#8

/-- Whether the exception list records that exception `k` about `x` was raised: by its own entry, or, lost, in the overflow
entry (R162, R163). -/
def State.recorded (s : State) (k : ExcKind) (x : ExcSubject) : Bool :=
  s.exceptions.entries.any (fun e => e.hasKey k x || e.hasKey .listOverflow .none)

/-- The night clock after an entry made from the phase in force: INTAKE, TRANSFER and CLOSE in turn, and from CLOSE the ending,
which with no task open ends the night at once (§1.4, §1.5). -/
def State.clockAfterEntry (s : State) : NightClock :=
  match s.clock.phase with
  | .unconfigured => s.clock
  | .idle => { s.clock with phase := .intake }
  | .intake => { s.clock with phase := .transfer }
  | .transfer => { s.clock with phase := .close }
  | .close =>
    if s.tasks = [] then { s.clock with phase := .idle, ending := false, rolledOver := true }
    else { s.clock with ending := true }

/-! ### The pallet table and the depot counters (R24, R28) -/

/-- The number of pallet records of destination `d` in a state. -/
def State.countOf (s : State) (d : Nat) (st : PalletState) : Nat :=
  (s.pallets.filter (fun r => r.dest == d && r.place.state == st)).length

/-- The five counters of a depot record, each equal to the number of records it counts (R24). -/
def State.countersAgree (s : State) (d : Nat) : Prop :=
  (s.depot d).expected = s.countOf d .expected ∧ (s.depot d).moving = s.countOf d .moving ∧
    (s.depot d).staged = s.countOf d .staged ∧ (s.depot d).held = s.countOf d .held ∧
    (s.depot d).loaded = s.countOf d .loaded

/-- No two pallet records carry the same id (R28), every destination is 0 or a depot's (§3.2), and each counter of each depot
equals the number of records with that destination in that state (R24). -/
structure State.RecordsCounted (s : State) : Prop where
  ids      : (s.pallets.map PalletRec.id).Nodup
  dests    : ∀ r ∈ s.pallets, r.dest ≤ 127
  counters : ∀ d, 1 ≤ d → d ≤ 127 → s.countersAgree d

/-! ### Capacities -/

/-- The tables hold at most what the manual gives them: 4096 pallet records (R28), 64 trailer records with no fleet number
twice (§4.3), 32 complete frames (R172), and no subject twice in the report queue (R176). -/
structure State.WithinCapacity (s : State) : Prop where
  pallets  : s.pallets.length ≤ 4096
  trailers : s.trailers.length ≤ 64
  fleets   : (s.trailers.map TrailerRec.fleet).Nodup
  receive  : s.link.receive.length ≤ 32
  reports  : s.link.reports.Nodup

/-! ### The queues of the two links -/

/-- The floor channel's queues: at most 16 replies (R153), and of notices one for each truck, so at most 32 (R154). The free-truck
queue, from which the trucks of RunOffers come, names trucks that exist. While the part runs, no message waits where the transmitter
is QUIET and CD is clear: it has keyed for it (R156). -/
structure State.FloorQueuesSound (s : State) : Prop where
  replies : s.floor.replies.length ≤ 16
  once    : (s.floor.notices.map Waiting.truck).Nodup
  trucks  : ∀ w ∈ s.floor.notices, w.truck < 32
  free    : ∀ t ∈ s.sched.freeQueue, t < 32
  keys    : s.live = true → s.floor.tx = .quiet → s.floor.cd = false → s.floor.replies = [] ∧ s.floor.notices = []

/-- The station link while the part runs: an idle transmitter has neither a reply nor a report to send (R177), and a frame waits in
the receive queue only while the reply slot is full (R173). -/
structure State.LinkSound (s : State) : Prop where
  sends : s.live = true → s.link.sending = none → s.link.slot = none ∧ s.link.reports = []
  takes : s.live = true → s.link.slot = none → s.link.receive = []

/-- A change of what subject `x` reports has been marked (R176): the subject stands in the report queue, or its report, composed from
this state, is being sent. -/
def State.reported (s : State) (x : Subject) : Prop := x ∈ s.link.reports ∨ s.link.sending = some (s.compose x)

/-! ### The exception list (R161 to R163) -/

/-- The key of an entry (§9.1). -/
def ExcEntry.key (e : ExcEntry) : ExcKind × ExcSubject := (e.kind, e.subject)

/-- No two entries have the same key (R162), the overflow entry has no subject, at most 63 entries are ordinary (R163), every
count lies from 1 to 255 (§9.1), and the change count has 16 bits (R161). -/
structure ExcList.Sound (l : ExcList) : Prop where
  keys     : (l.entries.map ExcEntry.key).Nodup
  overflow : ∀ e ∈ l.entries, e.kind = .listOverflow → e.subject = .none
  ordinary : l.ordinary ≤ 63
  counts   : ∀ e ∈ l.entries, 1 ≤ e.count ∧ e.count ≤ 255
  changes  : l.changes ≤ 65535

/-! ### The clock (R1) -/

/-- The second count is a time of day (§1.1), and so is every night time (R6). -/
def NightClock.inDay (c : NightClock) : Prop :=
  c.second < 86400 ∧ c.topen < 86400 ∧ c.ttransfer < 86400 ∧ c.tclose < 86400 ∧ c.tend < 86400

/-! ### Lift trucks and the free-truck queue (§7.1, R127) -/

/-- How a truck's run and task go with its state: a run exactly in OFFERED and ON_RUN, a task in ON_RUN only (§7.1). -/
def TruckRec.Coherent (r : TruckRec) : Prop :=
  (r.run.isSome = true ↔ r.state = .offered ∨ r.state = .onRun) ∧ (r.task.isSome = true → r.state = .onRun)

/-- The free-truck queue holds the FREE trucks and no others, and no truck twice (R127). -/
structure State.QueueSound (s : State) : Prop where
  once     : s.sched.freeQueue.Nodup
  free     : ∀ t, t ∈ s.sched.freeQueue ↔ t < 32 ∧ (s.truck t).state = .free
  coherent : ∀ t, t < 32 → (s.truck t).Coherent

/-! ### Plans (R102, R103, R115) -/

/-- The entries on a side of the load floor. -/
def Plan.onSide (p : Plan) (side : Side) : List Entry := p.rows.flatMap (fun r => r.stack side)

/-- The sum, over all entries from row `r` on, of weight times the row's coordinate. -/
def momentFrom : (r : Nat) → List PlanRow → Nat
  | _, [] => 0
  | r, row :: rest => stackWeight row.entries * rowCentre r + momentFrom (r + 1) rest

/-- What holds of every stack of a class's trailers: at most T entries, at most Hmax in height, only the top one reserved, no
hazard group where there are two or more, and no entry bearing more than its rating (R103, R107). -/
def StackSound (f : ClassRec) (st : List Entry) : Prop :=
  st.length ≤ f.tiers ∧ stackHeight st ≤ f.hmax ∧ (∀ e ∈ st.dropLast, e.confirmed = true) ∧
    (2 ≤ st.length → ∀ e ∈ st, e.hazard = none) ∧ bears 0 st = true

/-- What R103 and R115 say of a plan's entries: its totals equal them, its limits hold, its lost count is right, and nothing stands
beyond the rows that have been opened. -/
structure Plan.Bounded (p : Plan) : Prop where
  size     : p.rows.length = p.figures.rows
  weight   : p.weight = stackWeight p.entries
  moment   : p.moment = momentFrom 1 p.rows
  weightA  : p.weightA = stackWeight (p.onSide .a)
  weightB  : p.weightB = stackWeight (p.onSide .b)
  payload  : p.weight ≤ p.figures.wmax
  standing : ∀ row ∈ p.rows, StackSound p.figures row.a ∧ StackSound p.figures row.b
  hazards  : ∀ row ∈ p.rows, ∀ e ∈ row.entries, ∀ e' ∈ row.entries, ∀ g g', e.hazard = some g → e'.hazard = some g' → g = g'
  opened   : 1 ≤ p.openRow ∧ p.openRow ≤ p.figures.rows + 1
  beyond   : ∀ row ∈ p.rows.drop p.openRow, row.entries = []
  lost     : p.lost = ((p.rows.take (p.openRow - 1)).map PlanRow.empties).sum

/-- What R103 and R115 say of a plan at every moment: beside its totals and limits, its reserved count is right, and no pallet has
two reserved entries. -/
structure Plan.Sound (p : Plan) : Prop extends Plan.Bounded p where
  reserved : p.reserved = (p.entries.filter (fun e => !e.confirmed)).length
  ids      : ((p.entries.filter (fun e => !e.confirmed)).map Entry.id).Nodup

/-- Every plan in every buffer keeps its totals and limits (R103, R115), each of its class has a tier where it has a row (§6.1), and
a plan in its far phase has not gone past its last row (R117). -/
structure State.PlansHeld (s : State) : Prop where
  classes : ∀ c, 0 < (s.classes.get c).rows → 1 ≤ (s.classes.get c).tiers
  bounded : ∀ d b p, ((s.door d).buffer b).plan = some p → p.Bounded
  tiers   : ∀ d b p, ((s.door d).buffer b).plan = some p → 0 < p.figures.rows → 1 ≤ p.figures.tiers
  far     : ∀ d b p, ((s.door d).buffer b).plan = some p → p.drop = .far → 0 < p.figures.rows → p.openRow ≤ p.figures.rows

/-- Plan `q` holds the entries and the totals of plan `r`, and its trailer's figures and drops: what a drop switch (R117), a trailer
that becomes CLOSING (R105) and a seal check (R119) leave of a plan. -/
abbrev Plan.SameLoad (q r : Plan) : Prop :=
  { q with drop := r.drop, openRow := r.openRow, lost := r.lost, loading := r.loading, sealResult := r.sealResult } = r

/-! ### Lanes (R78) -/

/-- The level never exceeds the capacity, the nearly-full flag is the one R78 gives, and no pallet is a member twice (§5.1). -/
structure LaneRec.Sound (r : LaneRec) : Prop where
  level : r.level ≤ r.capacity
  flag  : r.nearlyFull = decide (r.high ≠ 0 ∧ r.high ≤ r.level)
  once  : r.contents.Nodup

/-- Every lane keeps its level within its capacity and its nearly-full flag as R78 gives it, and holds a reservation for each task
that targets it (§7.9). -/
structure State.LanesHeld (s : State) : Prop where
  level : ∀ l < 96, (s.lane l).level ≤ (s.lane l).capacity
  flag  : ∀ l < 96, (s.lane l).nearlyFull = decide ((s.lane l).high ≠ 0 ∧ (s.lane l).high ≤ (s.lane l).level)
  tasks : ∀ l < 96, (s.tasks.filter (fun k => k.2.target.location == .lane l)).length ≤ (s.lane l).reserved

/-! ### The reservation of a task (R82, R87, R114, R144) -/

/-- Between `s` and `t` the reservation of task `k`, and no other, has been released, and its source has its notice: a target lane's
reservation count has fallen by one, a target door's plan has its entry released, a source lane's tasks out has fallen by one; every
lane keeps its contents, and every other count and plan is as it was. -/
structure State.TaskReleased (s t : State) (k : Task) : Prop where
  lanes : ∀ l < 96, (t.lane l).contents = (s.lane l).contents ∧
    (t.lane l).reserved = (s.lane l).reserved - (if k.target = .lane l then 1 else 0) ∧
    (t.lane l).tasksOut = (s.lane l).tasksOut - (if k.source = .lane l then 1 else 0)
  plans : ∀ d < 48, ∀ p, s.livePlan d = some p → ∃ q, t.livePlan d = some q ∧
    q.SameLoad (if k.target.location = .door d then p.release k.pallet else p)

/-! ### Censuses (R91 to R93) -/

/-- The lanes that a census lists belong to its group, and while the group is PENDING each of them is bound and CENSUS_PENDING, so
that a lock check locks no other lane (R92, R93). -/
structure State.CensusSound (s : State) : Prop where
  own   : ∀ g < 4, (s.group g).stage ≠ .none → ∀ l ∈ (s.group g).lanes, l % s.census.groups = g
  waits : ∀ g < 4, (s.group g).stage = .pending → ∀ l ∈ (s.group g).lanes,
    (s.lane l).state = .pending ∧ (s.lane l).binding ≠ .none

end Sys2Proof.Machine
end

