-- ==== Sys2Proof/Certificates/Slice0/Obligations.lean ====
section
/-!
DEFINITION. The statements for the provers. Each names the rules or the sections it formalises; one that rests on a choice of
the model says so and names the log entry.
-/

open Sys2Proof Sys2Proof.Machine

/-! ### The step and the reset pin -/

/-- A step takes the command at the front of the queue and gives it its effect on the state with the queue's rest. The queue is
the model's: log entry 1. -/
def Obligations.StepRunsTheFrontCommand : Prop :=
  ∀ (c : Instr) (rest : List Instr) (s : State), s.pending = c :: rest → step s = exec c { s with pending := rest }

/-- With no command waiting, a step is one reference clock period (the model's choice: log entry 2), and nothing at all while
the reset pin is held. While the pin is held the part changes no state, but for what the pins themselves bring: power-on, the
pin, and the levels of the sense lines and of the modem's lines, which are the lines' own (log entry 1). When the pin falls, a
frame being sent is cut off, on the station link and on the floor channel, whose KEY drops, and what has come of a frame being
received is lost; how the transmitter then stands, with its messages in their queues, is the model's (log entry 1). -/
def Obligations.IdleAndHeldSteps : Prop :=
  (
    ∀ s : State, s.pending = [] →
      (s.live = false → step s = .next s) ∧
      (s.live = true → s.clock.sub + 1 < s.clock.secondDivisor →
        ∃ t, step s = .next t ∧ t.clock = { s.clock with sub := s.clock.sub + 1 } ∧
          { t with clock := s.clock, doors := s.doors, startUp := s.startUp } = s) ∧
      (s.live = true → s.clock.secondDivisor ≤ s.clock.sub + 1 → step s = exec .tick s)) ∧
  (
    (∀ (c : Instr) (s : State), s.live = false → Instr.ofPins c = false → exec c s = .next s) ∧
    (∀ s : State, ∃ t, exec .resetPinAssert s = .next t ∧
      { t with floor := s.floor } = { s with
        startUp := { s.startUp with resetHeld := true }, link := { s.link with sending := none, rx := [] } } ∧
      t.floor.keyed = false ∧ t.floor.wire = [] ∧
      (s.floor.keyed = false → t.floor = { s.floor with rx := [] }) ∧
      (s.floor.keyed = true → t.floor = { s.floor with
        tx := .quiet, timer := none, clr := false, leadIn := none, onAir := none, burst := 0, rx := [],
        replies := s.floor.replies.map (fun w => { w with onAir := false }),
        notices := s.floor.notices.map (fun w => { w with onAir := false }) })) ∧
    (∀ (d : Nat) (high : Bool) (s : State), s.live = false →
      exec (.senseLineChange d high) s = .next (s.modDoor d (fun r => { r with line := high }))) ∧
    (∀ s : State, s.live = false →
      exec .cdAsserted s = .next { s with floor := { s.floor with cd := true } } ∧
      exec .cdClears s = .next { s with floor := { s.floor with cd := false } } ∧
      exec .clrAsserted s = .next { s with floor := { s.floor with clr := true } }))

/-- Power-on and the release of the reset pin leave every block with the values its rules give for them, with the straps
sampled, the cause set, and the first PhaseReport on its way. That the sense lines keep their levels, and that the idle
transmitter at once takes the phase subject from the report queue and sends its report, and that a reset pin held before power-on
is not held after it, is the model's: log entry 1. -/
def Obligations.ResetLeavesTheStatedValues : Prop :=
  ∀ (rate1 rate0 : Bool) (s : State), ∃ t u,
    exec (.powerOn rate1 rate0) s = .next t ∧ exec (.resetPinRelease rate1 rate0) s = .next u ∧
    t.startUp = { cause := .power, configured := false, survey := none, resetHeld := false } ∧
    u = { t with startUp := { t.startUp with cause := .pin } } ∧
    t.clock = { second := 0, sub := 0, divisor := 10000000, secondDivisor := 10000000, valid := false, topen := 0,
                ttransfer := 0, tclose := 0, tend := 0, nightValid := false, phase := .unconfigured, ending := false,
                rolledOver := false } ∧
    t.due = [] ∧ t.pallets = [] ∧ t.trailers = [] ∧
    (∀ n < 256, (t.routes.get n).valid = false ∧ (t.routes.get n).pattern = 0 ∧ (t.routes.get n).mask = 0 ∧
      (t.routes.get n).depot = 0) ∧
    (∀ d, 1 ≤ d → d ≤ 127 → t.depot d =
      { enabled := false, home := none, group := [], priority := false, expected := 0, moving := 0, staged := 0, held := 0,
        loaded := 0, loadedTonight := 0 }) ∧
    (∀ d < 48, t.door d =
      { enabled := false, polarity := .presentHigh, debounce := 3, callTime := 300, unloadLimit := 2, loadLimit := 2,
        line := (s.door d).line, present := false, count := none, state := .off, called := none, callEnd := none,
        arrival := none, bound := none, queue := [], buffer0 := { state := .free, plan := none },
        buffer1 := { state := .free, plan := none }, recent := none, parity := 0 }) ∧
    (∀ l < 96, t.lane l =
      { binding := .none, capacity := 24, high := 0, state := .off, contents := [], reserved := 0, nearlyFull := false,
        holder := none, claim := none, tasksOut := 0, stalled := none, unverified := false, lastCensus := none }) ∧
    t.census.interval = 3600 ∧ t.census.groups = 4 ∧ t.census.timeout = 300 ∧
    (∀ g < 4, t.group g = { stage := .none, lanes := [], nextDue := none, timerEnd := none }) ∧
    (∀ c < 8, t.classes.get c =
      { rows := 0, hmax := 0, wmax := 0, axleX := 0, kmax := 0, amax := 0, tiers := 0, dlat := none, pattern := .fixed,
        flip := false, valid := false }) ∧
    (∀ n < 32, t.truck n =
      { state := .off, freeSince := none, lastLoc := none, run := none, offerEnd := none, task := none }) ∧
    t.sched = { freeQueue := [], counter := 0, settings :=
      { loadSlots := 4, urgencyLead := 1800, offerTime := 30, unloadLimit := 4, loadLimit := 4, relocLimit := 1,
        laneBase := 180, doorBase := 150, directBase := 240, relocBase := 240, changeover := 60 } } ∧
    t.floor.settings = { rate := 9600, leadIn := 4, burstLimit := 6, guardTime := 80, clearTimeout := 300 } ∧
    t.floor.rate = 9600 ∧ t.floor.tx = .quiet ∧ t.floor.replies = [] ∧ t.floor.notices = [] ∧ t.floor.timeouts = 0 ∧
    (∀ n < 32, t.floor.overrun.get n = false) ∧ t.floor.rx = [] ∧
    t.exceptions = { entries := [], changes := 0 } ∧
    t.link = { rate1 := rate1, rate0 := rate0, rx := [], receive := [], discarded := false, overrun := false, slot := none,
               sending := some { frame := { kind := 0xC0, tag := 0, body := List.replicate 17 0 }, notice := .none },
               reports := [] }

/-! ### The depot clock and the night (chapter 1) -/

/-- The sub-second count counts periods, the tick makes the next second, and the reset values and Restart are as stated (R1). That
the divisor in force when a second begins governs that whole second (R2), and that TICK stands for all the periods left of its
second, is the model's: log entry 2. -/
def Obligations.ClockCountsPeriodsAndSeconds : Prop :=
  (∀ s : State, s.clock.sub + 1 < s.clock.secondDivisor → s.period.clock = { s.clock with sub := s.clock.sub + 1 }) ∧
  (∀ s : State, s.clock.second < 86400 → s.clock.secondDivisor ≤ s.clock.sub + 1 →
    s.period.clock = { s.clock with
      second := if s.clock.second = 86399 then 0 else s.clock.second + 1
      sub := 0
      secondDivisor := s.clock.divisor }) ∧
  (∀ s : State, s.live = true → s.clock.second < 86400 → ∃ t, exec .tick s = .next t ∧
    t.clock = { s.clock with
      second := if s.clock.second = 86399 then 0 else s.clock.second + 1
      sub := 0
      secondDivisor := s.clock.divisor } ∧
    { t with clock := s.clock, due := s.due, doors := s.doors, startUp := s.startUp } = s) ∧
  (∀ (rate1 rate0 : Bool) (s : State), ∃ t u, exec (.powerOn rate1 rate0) s = .next t ∧
    exec (.resetPinRelease rate1 rate0) s = .next u ∧ u.clock = t.clock ∧ t.clock.second = 0 ∧ t.clock.sub = 0 ∧
    t.clock.divisor = 10000000 ∧ t.clock.valid = false) ∧
  (∀ (tag : Byte) (s : State), s.takes (.restart tag) = true → s.started = true → s.surveying = false →
    ∃ t, exec (.restart tag) s = .next t ∧ t.clock.second = s.clock.second ∧ t.clock.sub = s.clock.sub ∧
      t.clock.divisor = s.clock.divisor ∧ t.clock.valid = s.clock.valid)

/-- The tick reaches exactly the stored times equal to the new second count, and none while the clock is not valid; a reached
event waits while its owner holds the time, and an event no tick has reached does nothing. That a reached event waits for its
row is the model's choice: log entry 3. -/
def Obligations.TickReachesStoredTimes : Prop :=
  (∀ s : State, s.live = true → ∃ t, exec .tick s = .next t ∧
    ∀ (e : TimeEvent) (time : Nat), t.storedTime e = some time →
      (t.isDue e = true ↔ s.isDue e = true ∨ (s.clock.valid = true ∧ time = t.clock.second))) ∧
  (∀ (c : Instr) (e : TimeEvent) (s : State), Instr.timeEvent c = some e → s.isDue e = false → exec c s = .next s)

/-- SetTiming clamps the divisor, which governs every later second and moves no count (R2). SetClock sets the second count, clears
the sub-second count and sets the valid flag; it is not a tick (R3). That the second SetClock begins has the divisor in force is
the model's: log entry 3. -/
def Obligations.TimingAndClockSettings : Prop :=
  (
    (∀ (tag : Byte) (divisor : Nat) (s : State), s.takes (.setTiming tag divisor) = true →
      (s.surveying = true → exec (.setTiming tag divisor) s = .next (s.replied 0x84 tag .notNow [])) ∧
      (s.surveying = false → exec (.setTiming tag divisor) s = .next
        (State.replied { s with clock := { s.clock with divisor :=
            if divisor < 1000000 then 1000000 else if 50000000 < divisor then 50000000 else divisor } } 0x84 tag
          (if divisor < 1000000 ∨ 50000000 < divisor then .doneClamped else .done) []))) ∧
    (∀ s : State, (s.period.clock.second ≠ s.clock.second → s.clock.secondDivisor ≤ s.clock.sub + 1) ∧
      (s.clock.secondDivisor ≤ s.clock.sub + 1 → s.period.clock.second = (s.clock.second + 1) % 86400 ∧
        s.period.clock.secondDivisor = s.clock.divisor))) ∧
  (
    (∀ (tag : Byte) (time : Nat) (s : State), s.takes (.setClock tag time) = true →
      (86399 < time → s.surveying = false → s.inNight = false →
        exec (.setClock tag time) s = .next (s.replied 0x82 tag .badValue [])) ∧
      (time ≤ 86399 → s.surveying = true ∨ s.inNight = true →
        exec (.setClock tag time) s = .next (s.replied 0x82 tag .notNow [])) ∧
      (time ≤ 86399 → s.surveying = false → s.inNight = false →
        ∃ t, exec (.setClock tag time) s = .next (State.replied t 0x82 tag .done []) ∧
          t = State.mark { s with clock := { s.clock with
            second := time, sub := 0, secondDivisor := s.clock.divisor, valid := true } } .phase ∧
          t.due = s.due)) ∧
    (∀ (tag : Byte) (s : State), s.takes (.start tag) = true → s.started = false → s.surveying = false →
      s.clock.valid = false → exec (.start tag) s = .next (s.replied 0x8E tag .conflict [1])))

/-- R6: SetNight accepts four times of day whose offsets from Topen rise strictly, stores them and sets the night-valid flag; it
refuses the others and leaves those stored. -/
def Obligations.SetNightStoresRisingTimes : Prop :=
  (∀ (tag : Byte) (o tr c e : Nat) (s : State), s.takes (.setNight tag o tr c e) = true →
    let off := fun x => (x + 86400 - o) % 86400
    let good := o ≤ 86399 ∧ tr ≤ 86399 ∧ c ≤ 86399 ∧ e ≤ 86399 ∧ 0 < off tr ∧ off tr < off c ∧ off c < off e
    (¬ good → s.surveying = false → s.inNight = false →
      exec (.setNight tag o tr c e) s = .next (s.replied 0x83 tag .badValue [])) ∧
    (good → s.surveying = true ∨ s.inNight = true →
      exec (.setNight tag o tr c e) s = .next (s.replied 0x83 tag .notNow [])) ∧
    (good → s.surveying = false → s.inNight = false → exec (.setNight tag o tr c e) s = .next
      (State.replied (State.mark { s with clock := { s.clock with
        topen := o, ttransfer := tr, tclose := c, tend := e, nightValid := true } } .phase) 0x83 tag .done []))) ∧
  (∀ (tag : Byte) (s : State), s.takes (.start tag) = true → s.started = false → s.surveying = false →
    s.clock.valid = true → s.clock.nightValid = false → exec (.start tag) s = .next (s.replied 0x8E tag .conflict [2])) ∧
  (∀ (rate1 rate0 : Bool) (s : State), ∃ t u, exec (.powerOn rate1 rate0) s = .next t ∧
    exec (.resetPinRelease rate1 rate0) s = .next u ∧ u.clock = t.clock ∧ t.clock.topen = 0 ∧ t.clock.ttransfer = 0 ∧
    t.clock.tclose = 0 ∧ t.clock.tend = 0 ∧ t.clock.nightValid = false) ∧
  (∀ (tag : Byte) (s : State), s.takes (.restart tag) = true → s.started = true → s.surveying = false →
    ∃ t, exec (.restart tag) s = .next t ∧ t.clock.topen = s.clock.topen ∧ t.clock.ttransfer = s.clock.ttransfer ∧
      t.clock.tclose = s.clock.tclose ∧ t.clock.tend = s.clock.tend ∧ t.clock.nightValid = s.clock.nightValid)

/-- A phase time reached in the phase that precedes it moves the phase on, and in any other phase, or during the survey, leaves
the clock as it is. AdvancePhase makes one entry, and its reply carries the phase in force when the step is done (log entry 11);
it is refused UNCONFIGURED before Start, and NOT_NOW while the night is ending and during the survey. What each entry brings: at
INTAKE the census schedule is armed and each FREE door calls the first callable trailer of its queue; at TRANSFER and CLOSE a READY
trailer becomes LOADING, where nothing closes it at once; at CLOSE a LOADING trailer whose plan is in its near phase with an
exhausted near drop becomes CLOSING; at the ending every offer is withdrawn, every run without a task ends and every other is
marked closing, and every LOADING trailer becomes CLOSING. A trailer that becomes CLOSING may be SEALED in the same step. -/
def Obligations.PhaseEntriesMoveTheNightOn : Prop :=
  (
    ∀ (time : NightTime) (s : State), s.live = true → s.isDue (.phaseTime time) = true →
      ∃ t, exec (.phaseTimeReached time) s = .next t ∧ t.isDue (.phaseTime time) = false ∧
        t.clock =
          (if s.surveying = false ∧
              ((time = .topen ∧ s.clock.phase = .idle) ∨ (time = .ttransfer ∧ s.clock.phase = .intake) ∨
                (time = .tclose ∧ s.clock.phase = .transfer) ∨
                (time = .tend ∧ s.clock.phase = .close ∧ s.clock.ending = false)) then s.clockAfterEntry
           else s.clock)) ∧
  (
    ∀ (tag : Byte) (s : State), s.takes (.advancePhase tag) = true →
      (s.started = false → exec (.advancePhase tag) s = .next (s.replied 0x90 tag .unconfigured [])) ∧
      (s.started = true → s.clock.ending = true ∨ s.surveying = true →
        exec (.advancePhase tag) s = .next (s.replied 0x90 tag .notNow [])) ∧
      (s.started = true → s.clock.ending = false → s.surveying = false →
        ∃ t, exec (.advancePhase tag) s = .next t ∧ t.clock = s.clockAfterEntry ∧
          s.shows t 0x90 tag .done [BitVec.ofNat 8 t.clock.phase.code] = true)) ∧
  (
    ∀ s : State, s.surveying = false → s.clock.ending = false →
      let closed := fun (t : State) (f : Nat) => ∃ u, t.trailer? f = some u ∧ (u.state = .closing ∨ u.state = .sealed)
      let brings := fun (t : State) =>
        (s.clock.phase = .idle →
          (∀ g < 4, (t.group g).nextDue =
            if s.census.interval = 0 then (s.group g).nextDue
            else if g < s.census.groups then
              some ((s.clock.topen + s.census.interval * (g + 1) / s.census.groups) % 86400)
            else none) ∧
          (∀ d < 48, ∀ f, (s.door d).state = .free → (s.door d).queue.find? s.callable = some f →
            (t.door d).state = .called ∧ (t.door d).called = some f ∧
              (t.door d).callEnd = some ((s.now + (s.door d).callTime) % 86400))) ∧
        (s.clock.phase = .intake ∨ s.clock.phase = .transfer →
          ∀ f d tr, s.trailer? f = some tr → tr.state = .ready → tr.door = some d → s.reached tr.closingTime = false →
            (s.clock.phase = .transfer → ∀ e p, (s.door e).bound = some f → s.livePlan e = some p →
              s.exhausted p.near = false) →
            ∃ u, t.trailer? f = some u ∧ u.state = .loading) ∧
        (s.clock.phase = .transfer → ∀ f d tr p, s.trailer? f = some tr → tr.state = .loading → tr.door = some d →
          (s.door d).bound = some f → s.livePlan d = some p → p.drop = .near → s.exhausted p.near = true → closed t f) ∧
        (s.clock.phase = .close →
          (∀ f d tr, s.trailer? f = some tr → tr.state = .loading → tr.door = some d → closed t f) ∧
          (∀ n < 32, ∀ run, (s.truck n).run = some run →
            ((s.truck n).state = .offered → t.truck n =
              { s.truck n with state := .free, freeSince := some s.now, run := none, offerEnd := none }) ∧
            ((s.truck n).state = .onRun → (s.truck n).task = none → (t.truck n).run = none ∧
              (t.truck n).state = (if run.breakMark = true then .onBreak else .free)) ∧
            ((s.truck n).state = .onRun → (s.truck n).task ≠ none →
              t.truck n = { s.truck n with run := some { run with closing := true } })))
      (∀ time : NightTime, s.live = true → s.isDue (.phaseTime time) = true →
        (time = .topen ∧ s.clock.phase = .idle ∨ time = .ttransfer ∧ s.clock.phase = .intake ∨
          time = .tclose ∧ s.clock.phase = .transfer ∨ time = .tend ∧ s.clock.phase = .close) →
        ∃ t, exec (.phaseTimeReached time) s = .next t ∧ brings t) ∧
      (∀ tag : Byte, s.takes (.advancePhase tag) = true → s.started = true →
        ∃ t, exec (.advancePhase tag) s = .next t ∧ brings t))

/-- Rollover raises the roll count of every STAGED and HELD record up to 7, frees every MISSING record, sets every
loaded-tonight statistic to 0 and leaves the counters alone, stops the census schedule, and sets the rolled-over flag. While the
ending flag is set, the drop, the expiry, the logoff or the redirect without a target that ends the last task of the list ends the
night in the same step: the flag clears, the phase is IDLE and rollover is made, so that a pallet just dropped in a lane has its
roll count raised, and the record of one that the task's end made MISSING is freed. -/
def Obligations.RolloverAgesWhatStays : Prop :=
  (∀ s : State,
    s.rollover.pallets = (s.pallets.filter (fun r => r.place.state != .missing)).map (fun r =>
      if r.place.state = .staged ∨ r.place.state = .held then { r with roll := min 7 (r.roll + 1) } else r) ∧
    (∀ d, 1 ≤ d → d ≤ 127 → s.rollover.depot d = { s.depot d with loadedTonight := 0 }) ∧
    (∀ g < 4, s.rollover.group g = { s.group g with nextDue := none }) ∧
    s.rollover.clock = { s.clock with rolledOver := true } ∧
    (∀ t ∈ s.trailers, (s.depot t.near).loadedTonight ≠ 0 ∨ (s.depot (t.far.getD 0)).loadedTonight ≠ 0 →
      Subject.trailer t.fleet ∈ s.rollover.link.reports) ∧
    s.rollover.doors = s.doors ∧ s.rollover.lanes = s.lanes ∧ s.rollover.trailers = s.trailers ∧
    s.rollover.exceptions = s.exceptions ∧ s.rollover.trucks = s.trucks) ∧
  (
    ∀ (n : Nat) (task : Task) (r : PalletRec) (s : State), s.live = true → s.clock.ending = true → s.tasks = [(n, task)] →
      s.pallet? task.pallet = some r → r.place = .moving n →
      let ended := fun (t : State) =>
        t.clock = { s.clock with phase := .idle, ending := false, rolledOver := true } ∧
        (∀ q x, t.pallet? q = some x → x.place.state ≠ .missing) ∧
        (∀ q x, s.pallet? q = some x → q ≠ task.pallet → x.place.state = .staged ∨ x.place.state = .held →
          t.pallet? q = some { x with roll := min 7 (x.roll + 1) }) ∧
        (∀ d, 1 ≤ d → d ≤ 127 → (t.depot d).loadedTonight = 0) ∧ (∀ g < 4, (t.group g).nextDue = none)
      (∀ x, s.slotFor n = true → (s.truck n).state ≠ .off → task.target.location = x → x.names = true →
        ∃ t, exec (.drop n task.pallet x) s = .next t ∧ ended t ∧
          ∀ l, x = .lane l → t.pallet? task.pallet = some { r with
            place := if (s.lane l).fifo = true ∨ task.kind = .reloc then .staged l else .held l,
            roll := min 7 (r.roll + 1) }) ∧
      (s.isDue (.deadline n) = true →
        ∃ t, exec (.taskDeadline n) s = .next t ∧ ended t ∧ t.pallet? task.pallet = none) ∧
      (s.hears n = true → (s.truck n).state ≠ .off →
        ∃ t, exec (.logoff n) s = .next t ∧ ended t ∧ t.pallet? task.pallet = none) ∧
      (∀ (d f : Nat) (c : PeriodCount) (tr : TrailerRec), d < 48 → (s.door d).count = some c → c.total ≤ c.elapsed →
        s.started = true → s.surveying = false → (s.door d).present = true → (s.door d).state = .bound →
        (s.door d).bound = some f → s.trailer? f = some tr → tr.state = .loading ∨ tr.state = .closing →
        task.target.location = .door d → s.bayWithRoom = none →
        (r.dest = 0 ∨ r.hold = true ∨
          (s.loadPhase = false ∨ s.directDoors r.dest (some d) = []) ∧ s.stagingLane r.dest r.service = none) →
        ∃ t, exec (.lineEvent d) s = .next t ∧ ended t ∧ t.pallet? task.pallet = none))

/-! ### Routing and depots (chapter 2) -/

/-- R14 and R17: the check nibble, and the winner among the valid entries that match. -/
def Obligations.RouteCodesResolveByGreatestWeight : Prop :=
  (∀ (s : State) (code : BitVec 24),
    let n := code.toNat
    let value : BitVec 20 := BitVec.ofNat 20 (n / 16)
    let sum := n / 16 % 16 + n / 256 % 16 + n / 4096 % 16 + n / 65536 % 16 + n / 1048576
    let hit := fun i => (s.routes.get i).valid = true ∧ value &&& (s.routes.get i).mask = (s.routes.get i).pattern
    let weight := fun i => maskWeight (s.routes.get i).mask
    (n % 16 ≠ sum % 16 → s.resolve code = .check) ∧
    (n % 16 = sum % 16 → (∀ i < 256, ¬ hit i) → s.resolve code = .noMatch) ∧
    (n % 16 = sum % 16 → ∀ i < 256, hit i →
      (∀ j < 256, hit j → weight j < weight i ∨ (weight j = weight i ∧ i ≤ j)) →
      s.resolve code =
        (if (s.depot (s.routes.get i).depot).enabled then .to (s.routes.get i).depot else .disabled))) ∧
  (∀ r : Resolution, r.dest = 0 ∨ r = .to r.dest) ∧
  (Resolution.check.dest = 0 ∧ Resolution.check.cause = 1 ∧ Resolution.noMatch.dest = 0 ∧ Resolution.noMatch.cause = 2) ∧
  (∀ (l : Label) (id origin dest fleet : Nat) (place : Whereabouts),
    (labelRecord l id origin dest fleet place).route = l.route)

/-- R15: SetRoute writes one entry with its match masked, or refuses values out of range; the table is invalid after a reset and
kept by Restart. R16: ClearRoute clears one entry, or all 256. -/
def Obligations.RouteCommandsWriteTheTable : Prop :=
  (
    (∀ (tag : Byte) (n p m d : Nat) (s : State), s.takes (.setRoute tag n p m d) = true →
      let good := n ≤ 255 ∧ p ≤ 0xFFFFF ∧ m ≤ 0xFFFFF ∧ 1 ≤ d ∧ d ≤ 127
      let entry : RouteEntry :=
        { pattern := BitVec.ofNat 20 (p &&& m), mask := BitVec.ofNat 20 m, depot := d, valid := true }
      (good → s.surveying = false → exec (.setRoute tag n p m d) s = .next
        (State.replied { s with routes := s.routes.set n entry } 0x8C tag .done [])) ∧
      (¬ good → s.surveying = false →
        exec (.setRoute tag n p m d) s = .next (s.replied 0x8C tag .badValue [])) ∧
      (good → s.surveying = true →
        exec (.setRoute tag n p m d) s = .next (s.replied 0x8C tag .notNow []))) ∧
    (∀ (rate1 rate0 : Bool) (s : State), ∃ t u, exec (.powerOn rate1 rate0) s = .next t ∧
      exec (.resetPinRelease rate1 rate0) s = .next u ∧
      ∀ n < 256, t.routes.get n = { pattern := 0, mask := 0, depot := 0, valid := false } ∧
        u.routes.get n = t.routes.get n) ∧
    (∀ (tag : Byte) (s : State), s.takes (.restart tag) = true → s.started = true → s.surveying = false →
      ∃ t, exec (.restart tag) s = .next t ∧ t.routes = s.routes)) ∧
  (
    let cleared : RouteEntry := { pattern := 0, mask := 0, depot := 0, valid := false }
    (∀ (tag : Byte) (n : Nat) (s : State), s.takes (.clearRoute tag n) = true →
      (n ≤ 255 → s.surveying = false → exec (.clearRoute tag n) s =
        .next (State.replied { s with routes := s.routes.set n cleared } 0x8D tag .done [])) ∧
      (255 < n → s.surveying = false →
        exec (.clearRoute tag n) s = .next (s.replied 0x8D tag .badValue [])) ∧
      (n ≤ 255 → s.surveying = true → exec (.clearRoute tag n) s = .next (s.replied 0x8D tag .notNow []))) ∧
    (∀ (tag : Byte) (s : State), s.takes (.clearRouteAll tag) = true →
      (s.surveying = false → ∃ t, exec (.clearRouteAll tag) s = .next (State.replied t 0x8D tag .done []) ∧
        (∀ n < 256, t.routes.get n = cleared) ∧ { t with routes := s.routes } = s) ∧
      (s.surveying = true → exec (.clearRouteAll tag) s = .next (s.replied 0x8D tag .notNow []))))

/-- SetDepot writes the four configured fields of one record and touches neither its counters nor its statistic. Values out of range
are refused BAD_VALUE, and during the survey it is refused NOT_NOW. Once the part is started it is checked first against the lanes,
the home door, the records and the trailers, and a check that fails refuses it CONFLICT; the byte that says which check it was, and
their order, is the model's: log entry 10. -/
def Obligations.SetDepotWritesFourFields : Prop :=
  ∀ (tag : Byte) (d : Nat) (f : DepotFields) (s : State), s.takes (.setDepot tag d f) = true →
    let inRange := 1 ≤ d ∧ d ≤ 127 ∧ (∀ h, f.home = some h → h ≤ 47) ∧ (∀ l ∈ f.group, l ≤ 95) ∧ f.group.Nodup ∧
      f.group.length ≤ 8 ∧ (f.enabled = true → f.group ≠ [])
    let lanesBound := ∀ l ∈ f.group, (s.lane l).binding = .depot d
    let doorOn := ∀ h, f.home = some h → (s.door h).state ≠ .off
    let disabling := (s.depot d).enabled = true ∧ f.enabled = false
    let noRecords := (s.depot d).expected = 0 ∧ (s.depot d).moving = 0 ∧ (s.depot d).staged = 0 ∧ (s.depot d).held = 0 ∧
      (s.depot d).loaded = 0 ∧ (∀ r ∈ s.pallets, r.dest = d → r.place.state ≠ .missing)
    let unnamed := ∀ t ∈ s.trailers, t.origin ≠ d ∧ t.near ≠ d ∧ t.far ≠ some d
    let refused := fun (n : Byte) => exec (.setDepot tag d f) s = .next (s.replied 0x8B tag .conflict [n])
    (¬ inRange → s.surveying = false → exec (.setDepot tag d f) s = .next (s.replied 0x8B tag .badValue [])) ∧
    (inRange → s.surveying = true → exec (.setDepot tag d f) s = .next (s.replied 0x8B tag .notNow [])) ∧
    (inRange → s.surveying = false → s.started = true →
      (¬ lanesBound → refused 1) ∧
      (lanesBound → ¬ doorOn → refused 2) ∧
      (lanesBound → doorOn → disabling → ¬ noRecords → refused 3) ∧
      (lanesBound → doorOn → disabling → noRecords → ¬ unnamed → refused 4)) ∧
    (inRange → s.surveying = false →
      (s.started = true → lanesBound ∧ doorOn ∧ (disabling → noRecords ∧ unnamed)) →
      ∃ t, exec (.setDepot tag d f) s = .next t ∧ s.shows t 0x8B tag .done [] = true ∧
        t.depot d = { s.depot d with enabled := f.enabled, home := f.home, group := f.group, priority := f.priority } ∧
        (∀ e, e ≠ d → t.depot e = s.depot e) ∧
        t.pallets = s.pallets ∧ t.doors = s.doors ∧ t.trailers = s.trailers ∧ t.routes = s.routes ∧
        t.exceptions = s.exceptions ∧ t.clock = s.clock)

/-! ### Pallet records (chapter 3) -/

/-- A manifest whose entries are all valid and new is accepted whole: each gives an EXPECTED record made from its label, with
its destination resolved and its measured fields saturated, and the trailer's expected count rises by their number. A count that
disagrees with the entries is refused BAD_FORM, and an invalid entry BAD_VALUE with the position of the first. An entry whose id
the table or an earlier entry has is a duplicate, and changes no record; from the first new entry that finds the table full on,
the entries are refused, and the answer is FULL with TABLE_FULL recorded. A label out of its measured ranges raises
SATURATED_LABEL and one without a destination UNROUTED, for the pallets of one Manifest in ascending id, a pallet's two together
(log entry 25). The counts and positions are one byte each: log entry 11. -/
def Obligations.ManifestCreatesExpectedRecords : Prop :=
  (∀ (tag : Byte) (fleet : Nat) (entries : List ManifestEntry) (s : State) (tr : TrailerRec),
    s.takes (.manifest tag fleet entries.length entries 0) = true → s.started = true → s.surveying = false →
    entries.length ≤ 64 → s.trailer? fleet = some tr → tr.role ≠ .outbound →
    (tr.state = .announced ∨ tr.state = .yard ∨ tr.state = .called ∨ tr.state = .unloading) →
    (∀ e ∈ entries, e.id ≠ 0 ∧ e.label.hazard ≤ 7 ∧ (e.label.cls = 1 ∨ e.label.cls = 2) ∧ s.pallet? e.id = none) →
    (entries.map ManifestEntry.id).Nodup → s.pallets.length + entries.length ≤ 4096 →
    tr.expected + entries.length ≤ 65535 →
    ∃ t, exec (.manifest tag fleet entries.length entries 0) s = .next t ∧
      s.shows t 0x92 tag .done [BitVec.ofNat 8 entries.length, 0, 0] = true ∧
      (∀ e ∈ entries, t.pallet? e.id = some
        { id := e.id, origin := tr.origin, dest := (s.resolve e.label.route).dest, route := e.label.route,
          weight := max 1 (min 1500 e.label.weight), height := max 3 (min 26 e.label.height),
          topLoad := min 2000 e.label.topLoad,
          hazard := if e.label.hazard = 0 then none else some e.label.hazard,
          service := if e.label.cls = 2 then .premium else .standard,
          hold := e.label.hold || decide (e.label.weight < 1 ∨ 1500 < e.label.weight ∨ e.label.height < 3 ∨
            26 < e.label.height ∨ 2000 < e.label.topLoad),
          saturated := decide (e.label.weight < 1 ∨ 1500 < e.label.weight ∨ e.label.height < 3 ∨ 26 < e.label.height ∨
            2000 < e.label.topLoad),
          roll := 0, inbound := some tr.fleet, place := .expected tr.fleet }) ∧
      t.pallets.length = s.pallets.length + entries.length ∧
      t.trailer? fleet = some { tr with expected := tr.expected + entries.length } ∧
      (∀ sorted : List ManifestEntry, sorted.Perm entries → sorted.Pairwise (fun x y => x.id < y.id) →
        let raised := fun (u : State) (e : ManifestEntry) =>
          let n := (if 1 ≤ e.label.weight ∧ e.label.weight ≤ 1500 then 0 else 1) +
            (if 3 ≤ e.label.height ∧ e.label.height ≤ 26 then 0 else 2) + (if e.label.topLoad ≤ 2000 then 0 else 4)
          let v := if n = 0 then u else u.raise .saturatedLabel (.pallet e.id) n
          let w := fun (cause : Nat) => v.raise .unrouted (.pallet e.id) (cause * 2 ^ 24 + e.label.route.toNat)
          match s.resolve e.label.route with
          | .to _ => v | .check => w 1 | .noMatch => w 2 | .disabled => w 3
        t.exceptions = (sorted.foldl raised s).exceptions) ∧
      t.lanes = s.lanes ∧ t.trucks = s.trucks ∧ t.doors = s.doors ∧ t.clock = s.clock ∧ t.routes = s.routes) ∧
  (
    ∀ (tag : Byte) (fleet count excess : Nat) (entries : List ManifestEntry) (s : State),
      s.takes (.manifest tag fleet count entries excess) = true → s.started = true → s.surveying = false →
      let c := Instr.manifest tag fleet count entries excess
      let valid := fun (e : ManifestEntry) => e.id ≠ 0 ∧ e.label.hazard ≤ 7 ∧ (e.label.cls = 1 ∨ e.label.cls = 2)
      let fresh : List ManifestEntry → List Nat :=
        fun es => firstOf ((es.map ManifestEntry.id).filter (fun p => (s.pallet? p).isNone))
      (64 < count ∨ count ≠ entries.length ∨ excess ≠ 0 → exec c s = .next (s.replied 0x92 tag .badForm [])) ∧
      (∀ tr, entries.length ≤ 64 → count = entries.length → excess = 0 → s.trailer? fleet = some tr → tr.role ≠ .outbound →
        (tr.state = .announced ∨ tr.state = .yard ∨ tr.state = .called ∨ tr.state = .unloading) →
        (∀ before e after, entries = before ++ e :: after → (∀ x ∈ before, valid x) → ¬ valid e →
          exec c s = .next (s.replied 0x92 tag .badValue [BitVec.ofNat 8 (before.length + 1)])) ∧
        ((∀ e ∈ entries, valid e) → s.pallets.length + (fresh entries).length ≤ 4096 → ∃ t, exec c s = .next t ∧
          s.shows t 0x92 tag .done
            [BitVec.ofNat 8 (fresh entries).length, BitVec.ofNat 8 (entries.length - (fresh entries).length), 0] = true ∧
          t.pallets.length = s.pallets.length + (fresh entries).length ∧
          (∀ p r, s.pallet? p = some r → t.pallet? p = some r)) ∧
        (∀ before e after, entries = before ++ e :: after → (∀ x ∈ entries, valid x) →
          s.pallets.length + (fresh before).length = 4096 → s.pallet? e.id = none → e.id ∉ before.map ManifestEntry.id →
          ∃ t, exec c s = .next t ∧ t.pallets.length = 4096 ∧ t.pallet? e.id = none ∧
            s.shows t 0x92 tag .full
              [BitVec.ofNat 8 (fresh before).length, BitVec.ofNat 8 (before.length - (fresh before).length),
               BitVec.ofNat 8 (after.length + 1), BitVec.ofNat 8 (before.length + 1)] = true ∧
            (∀ p r, s.pallet? p = some r → t.pallet? p = some r) ∧
            t.recorded .tableFull (.trailer tr.fleet) = true) ∧
        (∀ e, entries = [e] → valid e → s.pallet? e.id = none → s.pallets.length < 4096 → ∃ t, exec c s = .next t ∧
          let n := (if 1 ≤ e.label.weight ∧ e.label.weight ≤ 1500 then 0 else 1) +
            (if 3 ≤ e.label.height ∧ e.label.height ≤ 26 then 0 else 2) + (if e.label.topLoad ≤ 2000 then 0 else 4)
          let u := if n = 0 then s else s.raise .saturatedLabel (.pallet e.id) n
          let v := fun (cause : Nat) => u.raise .unrouted (.pallet e.id) (cause * 2 ^ 24 + e.label.route.toNat)
          t.exceptions = (match s.resolve e.label.route with
            | .to _ => u | .check => v 1 | .noMatch => v 2 | .disabled => v 3).exceptions)))

/-- HoldOnArrival sets the flag of an EXPECTED record and changes nothing else but the report queue; without a record it is
refused UNKNOWN, and for a record in another state NOT_NOW. ReleaseHeld makes a HELD record STAGED in the same bay with its
hold-on-arrival flag cleared, giving it the destination carried when it had none; the bay's contents and level do not change,
and the counters follow. -/
def Obligations.HoldingAndReleaseChangeOneRecord : Prop :=
  (
    ∀ (tag : Byte) (p : Nat) (s : State), s.takes (.holdOnArrival tag p) = true → s.started = true → s.surveying = false →
      (s.pallet? p = none → exec (.holdOnArrival tag p) s = .next (s.replied 0xA1 tag .unknown [])) ∧
      (∀ r, s.pallet? p = some r → r.place.state ≠ .expected →
        exec (.holdOnArrival tag p) s = .next (s.replied 0xA1 tag .notNow [])) ∧
      (∀ r, s.pallet? p = some r → r.place.state = .expected → ∃ t,
        exec (.holdOnArrival tag p) s = .next (State.replied t 0xA1 tag .done []) ∧
        t.pallet? p = some { r with hold := true } ∧ (∀ q, q ≠ p → t.pallet? q = s.pallet? q) ∧
        { t with pallets := s.pallets, link := s.link } = s ∧
        { t.link with reports := s.link.reports } = s.link ∧
        (∀ f, r.inbound = some f → Subject.trailer f ∈ t.link.reports))) ∧
  (
    ∀ (tag : Byte) (p : Nat) (dest : Option Nat) (s : State) (r : PalletRec) (l : Nat),
      s.takes (.releaseHeld tag p dest) = true → s.started = true → s.surveying = false →
      s.pallet? p = some r → r.place = .held l →
      (∀ d, dest = some d → r.dest = 0 → 1 ≤ d → d ≤ 127 → (s.depot d).enabled = true → ∃ t,
        exec (.releaseHeld tag p dest) s = .next t ∧ s.shows t 0xA2 tag .done [] = true ∧
        t.pallet? p = some { r with place := .staged l, hold := false, dest := d } ∧
        t.depot d = { s.depot d with staged := (s.depot d).staged + 1 } ∧ (∀ e, e ≠ d → t.depot e = s.depot e) ∧
        (t.lane l).contents = (s.lane l).contents ∧ (t.lane l).reserved = (s.lane l).reserved ∧
        t.doors = s.doors ∧ t.trailers = s.trailers ∧ t.exceptions = s.exceptions) ∧
      (dest = none → 1 ≤ r.dest → r.dest ≤ 127 → ∃ t,
        exec (.releaseHeld tag p dest) s = .next t ∧ s.shows t 0xA2 tag .done [] = true ∧
        t.pallet? p = some { r with place := .staged l, hold := false } ∧
        t.depot r.dest = { s.depot r.dest with
          held := (s.depot r.dest).held - 1, staged := (s.depot r.dest).staged + 1 } ∧
        (∀ e, e ≠ r.dest → t.depot e = s.depot e) ∧
        (t.lane l).contents = (s.lane l).contents ∧ (t.lane l).reserved = (s.lane l).reserved ∧
        t.doors = s.doors ∧ t.trailers = s.trailers ∧ t.exceptions = s.exceptions) ∧
      (dest = none → r.dest = 0 → exec (.releaseHeld tag p dest) s = .next (s.replied 0xA2 tag .badValue [])) ∧
      (∀ d, dest = some d → 1 ≤ d → d ≤ 127 → r.dest ≠ 0 →
        exec (.releaseHeld tag p dest) s = .next (s.replied 0xA2 tag .conflict [])))

/-! ### Doors, yard queues and trailers (chapter 4) -/

/-- A change of a sense line begins, keeps or, before it is complete, abandons the debounce count, whose number of periods is
fixed when it begins; it changes nothing else. A completed debounce count sets the debounced level; before Start and during the
survey that is all, and an enabled door in use acts on it by its state otherwise; that an ARRIVED door without an expected trailer
becomes FREE is shown where no call can follow. That a complete count stands, whatever the line does, until its LINE_EVENT is the
model's: log entry 4. -/
def Obligations.SenseLinesMoveDoors : Prop :=
  (
    ∀ (d : Nat) (high : Bool) (s : State), s.live = true → d < 48 →
      let r := s.door d
      let reading := (high == (r.polarity == .presentHigh))
      ∃ t, exec (.senseLineChange d high) s = .next t ∧
        t.door d = { r with
          line := high
          count := (match r.count with
            | none => if reading = r.present then none else some { elapsed := 0, total := r.debounce * s.clock.divisor }
            | some c => if reading = r.present ∧ c.elapsed < c.total then none else some c) } ∧
        (∀ e, e ≠ d → t.door e = s.door e) ∧ { t with doors := s.doors } = s) ∧
  (
    ∀ (d : Nat) (s : State) (c : PeriodCount), s.live = true → d < 48 → (s.door d).count = some c → c.total ≤ c.elapsed →
      let r := s.door d
      ((s.started = false ∨ s.surveying = true ∨ r.state = .off) → ∃ t, exec (.lineEvent d) s = .next t ∧
        t.door d = { r with present := !r.present, count := none } ∧ t.trailers = s.trailers) ∧
      (s.started = true → s.surveying = false → r.present = false → r.state = .free → ∃ t,
        exec (.lineEvent d) s = .next t ∧
        t.door d = { r with present := true, count := none, state := .arrived, called := none, arrival := some s.now } ∧
        t.trailers = s.trailers) ∧
      (s.started = true → s.surveying = false → r.present = false → r.state = .called → ∃ t,
        exec (.lineEvent d) s = .next t ∧
        t.door d = { r with present := true, count := none, state := .arrived, callEnd := none, arrival := some s.now } ∧
        t.trailers = s.trailers) ∧
      (∀ f, s.started = true → s.surveying = false → r.present = true → r.state = .arrived → r.called = some f → ∃ t,
        exec (.lineEvent d) s = .next t ∧
        t.door d = { r with present := false, count := none, state := .called,
                            callEnd := some ((s.now + r.callTime) % 86400) } ∧
        t.trailers = s.trailers) ∧
      (s.started = true → s.surveying = false → s.working = false → r.present = true → r.state = .arrived →
        r.called = none → ∃ t, exec (.lineEvent d) s = .next t ∧
          t.door d = { r with present := false, count := none, state := .free, callEnd := none, bound := none } ∧
          t.trailers = s.trailers))

/-- A trailer leaves when its line becomes absent: SEALED and EMPTIED trailers depart, and trailers in every other bound state
leave early, with the early-undock flag set and an EARLY_UNDOCK recorded, whose detail gives the state, the door and the number
of records made MISSING (or it is the last one lost in the overflow entry); in both cases the trailer is DEPARTED, its door is bound
to nothing and its plan buffer is FROZEN, the more recently frozen one of the door. The frozen plan holds the confirmed entries only:
no entry is reserved in it, and its totals are those of what it holds. The records still EXPECTED on an UNLOADING
trailer that leaves early are MISSING, last known on it (shown where the night is not ending). A task that targets the door of an
early undock is redirected: its entry on the door's plan is released, and it goes to the target then decided, OPEN with a deadline a
lane base time from now, or, with none, to its end, its pallet MISSING, last known at the truck, and its run over; the truck has a Redirect. So does the step of a door's line event,
where one task targets the door: to a staging lane or a bay with a place, which holds a reservation more, to the first trailer
loading for the pallet's depot elsewhere whose plan takes it, or to no target where there is none (shown where the night is not
ending); a LOAD run to the door is closing, and a truck whose run is over is FREE or on BREAK. No lane stays stalled for a trailer
that has left. -/
def Obligations.AbsentLineUnderATrailerIsItsDeparture : Prop :=
  (∀ (d f : Nat) (s : State) (c : PeriodCount) (tr : TrailerRec), s.live = true → d < 48 →
    (s.door d).count = some c → c.total ≤ c.elapsed → s.started = true → s.surveying = false →
    (s.door d).present = true → (s.door d).state = .bound → (s.door d).bound = some f → s.trailer? f = some tr →
    tr.state.isBound = true → (∀ e, f ∉ (s.door e).queue) →
    ∃ t, exec (.lineEvent d) s = .next t ∧
      (t.door d).bound = none ∧ (t.door d).present = false ∧
      ((t.door d).state = .free ∨ (t.door d).state = .called) ∧
      (t.door d).liveNo = (if (s.door d).liveNo = some 0 ∧ (s.door d).buffer1.state = .live then some 1 else none) ∧
      (∃ u, t.trailer? f = some u ∧ u.state = .departed ∧
        u.early = (if tr.state = .sealed ∨ tr.state = .emptied then tr.early else true)) ∧
      (∀ b, (s.door d).liveNo = some b → ((t.door d).buffer b).state = .frozen ∧ (t.door d).recent = some b) ∧
      (∀ b plan, (s.door d).liveNo = some b → s.livePlan d = some plan → ∃ q, ((t.door d).buffer b).plan = some q ∧
        q.loading = false ∧
        q.rows = plan.rows.map (fun row => { a := row.a.filter Entry.confirmed, b := row.b.filter Entry.confirmed }) ∧
        (plan.Sound → q.reserved = 0 ∧ q.weight = stackWeight q.entries ∧ q.moment = momentFrom 1 q.rows ∧
          q.weightA = stackWeight (q.onSide .a) ∧ q.weightB = stackWeight (q.onSide .b))) ∧
      (∀ l < 96, (s.lane l).stalled = some f → (t.lane l).stalled = none) ∧
      (tr.state ≠ .sealed → tr.state ≠ .emptied → t.recorded .earlyUndock (.trailer f) = true ∧
        let n := if tr.state = .unloading then (s.pallets.filter (fun r => r.place == .expected tr.fleet)).length else 0
        ∃ e ∈ t.exceptions.entries,
          e.kind = .earlyUndock ∧ e.subject = .trailer tr.fleet ∧ e.detail = tr.state.code * 2 ^ 24 + d * 2 ^ 16 + n ∨
          e.kind = .listOverflow ∧ e.subject = .none ∧ e.detail = 3 * 2 ^ 24 + 4 * 2 ^ 16 + tr.fleet % 2 ^ 16) ∧
      (tr.state = .unloading → s.clock.ending = false → (s.pallets.map PalletRec.id).Nodup →
        ∀ r ∈ s.pallets, r.place = .expected tr.fleet →
          t.pallet? r.id = some { r with place := .missing (.trailer tr.fleet) })) ∧
  (
    ∀ (d n : Nat) (s : State) (task : Task) (run : Run) (r : PalletRec), n < 32 → (s.truck n).state = .onRun →
      (s.truck n).task = some task → (s.truck n).run = some run → task.target.location = .door d → s.pallet? task.pallet = some r →
      let u := (s.modPlan d (fun p => p.release task.pallet)).sealCheckDoor d
      let t := State.redirectTask d s n
      let redirect := fun target => ({ truck := n, msg := .redirect task.pallet target, onAir := false, opens := false } : Waiting)
      (∀ plan, s.livePlan d = some plan → ∃ q, t.livePlan d = some q ∧ q.SameLoad (plan.release task.pallet)) ∧
      (∀ target v, u.decideTarget r (some d) = (some target, v) →
        (t.truck n).task = some { task with
          target := target, open_ := true, deadline := some ((s.now + s.sched.settings.laneBase) % 86400) } ∧
        redirect (some target) ∈ t.floor.notices ∧ t.pallets = s.pallets) ∧
      (∀ v, u.decideTarget r (some d) = (none, v) →
        (t.truck n).task = none ∧ (t.truck n).run = none ∧
        (t.truck n).state = (if run.breakMark = true then .onBreak else .free) ∧
        redirect none ∈ t.floor.notices ∧
        (r.place = .moving n → t.pallet? task.pallet = some { r with place := .missing (.truck n) }))) ∧
  (
    ∀ (d f n : Nat) (s : State) (c : PeriodCount) (tr : TrailerRec) (task : Task) (run : Run) (r : PalletRec), s.live = true →
      d < 48 → (s.door d).count = some c → c.total ≤ c.elapsed → s.started = true → s.surveying = false →
      (s.door d).present = true → (s.door d).state = .bound → (s.door d).bound = some f → s.trailer? f = some tr →
      (tr.state = .loading ∨ tr.state = .closing) → n < 32 → n ∉ s.sched.freeQueue → (s.truck n).state = .onRun →
      (s.truck n).task = some task → (s.truck n).run = some run → task.target.location = .door d →
      s.pallet? task.pallet = some r →
      (∀ m task', m ≠ n → (s.truck m).task = some task' → task'.target.location ≠ .door d) →
      let redirect := fun target => ({ truck := n, msg := .redirect task.pallet target, onAir := false, opens := false } : Waiting)
      let redirected := fun (target : Target) (t : State) =>
        (t.truck n).task = some { task with
          target := target, open_ := true, deadline := some ((s.now + s.sched.settings.laneBase) % 86400) } ∧
        (t.truck n).state = .onRun ∧
        (run.kind = .load → run.target = some d → (t.truck n).run = some { run with closing := true }) ∧
        (run.kind ≠ .load → run.source ≠ .door d → (t.truck n).run = some run) ∧
        redirect (some target) ∈ t.floor.notices ∧ t.pallets = s.pallets
      let direct := if r.dest = 0 ∨ r.hold = true ∨ s.loadPhase = false then [] else s.directDoors r.dest (some d)
      let staging := if r.dest = 0 ∨ r.hold = true then s.bayWithRoom else (s.stagingLane r.dest r.service).or s.bayWithRoom
      (∀ l < 96, s.LanesHeld → s.CensusSound → direct = [] → staging = some l → ∃ t, exec (.lineEvent d) s = .next t ∧
        redirected (.lane l) t ∧
        (t.lane l).reserved = (s.lane l).reserved + 1) ∧
      (∀ e rest p q at_, direct = e :: rest → e < 48 → (s.door e).bound ≠ some f → s.livePlan e = some p →
        p.place (r.entry false) = .placed q at_ → ∃ t, exec (.lineEvent d) s = .next t ∧
          redirected (.door e at_.row at_.side at_.tier) t ∧ t.livePlan e = some q) ∧
      (s.LanesHeld → direct = [] → staging = none → s.clock.ending = false → ∃ t, exec (.lineEvent d) s = .next t ∧
        (t.truck n).task = none ∧ (t.truck n).run = none ∧
        (t.truck n).state = (if run.breakMark = true then .onBreak else .free) ∧ redirect none ∈ t.floor.notices ∧
        (r.place = .moving n → t.pallet? task.pallet = some { r with place := .missing (.truck n) })))

/-- An accepted SetDoor stores the door's settings, clamped, and sets the door's state: OFF when disabled, ARRIVED or FREE when
newly enabled, and as it was otherwise (a disabled door's yard queue is empty, so no call follows). SetLane stores the binding,
the capacity, from 1 to 48 and never below the level, and the high mark, at most 48; the state is OFF for NONE and becomes OPEN
from OFF otherwise, the nearly-full flag is evaluated, and the lane keeps its contents and reservations. Another door, and another
lane, keeps its record, but for a lane whose run a pairing of the same step offers: it gets its holder, and its nearly-full flag
is evaluated, which changes nothing where the flag was right. -/
def Obligations.DoorAndLaneConfiguration : Prop :=
  (
    ∀ (tag : Byte) (d : Nat) (f : DoorFields) (p : Polarity) (s : State), s.takes (.setDoor tag d f) = true →
      s.surveying = false → d < 48 → f.polarity = p.code →
      ((s.door d).enabled = false → (s.door d).queue = []) →
      ((s.door d).enabled = true → f.enabled = false → (s.door d).state = .free ∧ (s.door d).queue = [] ∧
        (s.started = true → ∀ c, 1 ≤ c → c ≤ 127 → (s.depot c).enabled = true → (s.depot c).home ≠ some d)) →
      ∃ t, exec (.setDoor tag d f) s = .next t ∧
        s.shows t 0x89 tag
          (if 1 ≤ f.debounce ∧ f.debounce ≤ 15 ∧ 60 ≤ f.callTime ∧ f.callTime ≤ 1800 ∧ 1 ≤ f.unloadLimit ∧
              f.unloadLimit ≤ 4 ∧ 1 ≤ f.loadLimit ∧ f.loadLimit ≤ 4 then .done else .doneClamped) [] = true ∧
        (t.door d).enabled = f.enabled ∧ (t.door d).polarity = p ∧
        (t.door d).debounce = max 1 (min 15 f.debounce) ∧ (t.door d).callTime = max 60 (min 1800 f.callTime) ∧
        (t.door d).unloadLimit = max 1 (min 4 f.unloadLimit) ∧ (t.door d).loadLimit = max 1 (min 4 f.loadLimit) ∧
        (t.door d).line = (s.door d).line ∧ (t.door d).present = (s.door d).present ∧
        (t.door d).queue = (s.door d).queue ∧ (t.door d).bound = (s.door d).bound ∧ (t.door d).parity = (s.door d).parity ∧
        (t.door d).state =
          (if f.enabled = false then .off
           else if (s.door d).enabled = true then (s.door d).state
           else if (s.door d).present = true ∧ s.started = true then .arrived else .free) ∧
        (∀ e, e ≠ d → t.door e = s.door e) ∧
        t.trailers = s.trailers ∧ t.pallets = s.pallets ∧ t.depots = s.depots ∧ t.clock = s.clock) ∧
  (
    ∀ (tag : Byte) (l capacity high : Nat) (b : Binding) (s : State), s.takes (.setLane tag l b.code capacity high) = true →
      s.surveying = false → l < 96 → (∀ d, b = .depot d → 1 ≤ d ∧ d ≤ 127) → (s.lane l).holder = none →
      (b ≠ (s.lane l).binding →
        (s.lane l).contents = [] ∧ (s.lane l).reserved = 0 ∧ (s.lane l).claim = none ∧ (s.lane l).tasksOut = 0 ∧
        (s.lane l).state ≠ .pending ∧ (s.lane l).state ≠ .locked ∧
        (s.started = true → (∀ d, 1 ≤ d → d ≤ 127 → b ≠ .depot d → l ∉ (s.depot d).group) ∧
          ((s.lane l).binding = .hold → ∃ m < 96, m ≠ l ∧ (s.lane m).binding = .hold))) →
      let c := max (s.lane l).level (max 1 (min 48 capacity))
      ∃ t, exec (.setLane tag l b.code capacity high) s = .next t ∧
        s.shows t 0x8A tag (if c = capacity ∧ high ≤ 48 then .done else .doneClamped)
          (if c = capacity ∧ high ≤ 48 then [] else [BitVec.ofNat 8 c, BitVec.ofNat 8 (min 48 high)]) = true ∧
        { t.lane l with holder := none } = { s.lane l with
          binding := b, capacity := c, high := min 48 high,
          state := if b = .none then .off else if (s.lane l).state = .off then .open_ else (s.lane l).state,
          nearlyFull := decide (min 48 high ≠ 0 ∧ min 48 high ≤ (s.lane l).level) } ∧
        (∀ m, m ≠ l → { t.lane m with holder := none, nearlyFull := false } =
          { s.lane m with holder := none, nearlyFull := false }) ∧
        (s.LanesHeld → ∀ m < 96, m ≠ l → { t.lane m with holder := none } = { s.lane m with holder := none }) ∧
        t.pallets = s.pallets ∧ t.depots = s.depots ∧ t.doors = s.doors ∧ t.trailers = s.trailers ∧ t.clock = s.clock)

/-- An accepted Announce adds one ANNOUNCED record with the fields carried, the leads clamped, and no door, times, counts or
flags, and changes nothing else but the report queue. AmendTrailer of a trailer not yet bound replaces the departure time, the
leads, clamped, and the far drop that it carries, and nothing else of the record. Of a trailer already bound it does the same, but
sets no far drop, and takes one away only while the trailer's plan is in its far phase with no entry on it: the plan is then in its
near phase, its far drop absent. A closing time that has been reached closes a LOADING trailer, its plan's loading mark clear, and
seals it where no task targets its door and no entry is reserved; a switch time that has been reached puts a far-phase plan into its
near phase, past the rows that hold entries, and clears the stall marks held for its trailer; and in CLOSE a LOADING trailer closes
whose plan has so come to an exhausted near drop. The times tested are those of the record as it then stands, one that the command
did not change among them (the model's choice: log entry 29). Otherwise the door, the plan, the lanes and every other trailer stand.
An AmendTrailer that fails a check changes nothing: UNKNOWN without a record or with a DEPARTED one, BAD_VALUE for a value out of
range, CONFLICT for a far drop of a depot that is not enabled, for one set after binding, and for a removal after binding that finds
no such plan. CancelTrailer of an ANNOUNCED or YARD trailer
frees its record and every record EXPECTED on it, takes it out of its door's queue and its subject out of the report queue, and
no other record names it as inbound trailer afterwards. -/
def Obligations.TrailerRecordCommands : Prop :=
  (
    ∀ (tag : Byte) (a : AnnounceFields) (role : Role) (s : State), s.takes (.announce tag a) = true →
      s.started = true → s.surveying = false → a.role = role.code → 1 ≤ a.fleet → a.fleet ≤ 65535 →
      1 ≤ a.origin → a.origin ≤ 127 → a.cls ≤ 7 → a.tdep ≤ 86399 →
      (∀ w, a.window = some w → w.1 ≤ 86399 ∧ w.2 ≤ 86399) →
      (role = .inbound → a.near = 0 ∧ a.far = none) →
      (role ≠ .inbound → 1 ≤ a.near ∧ a.near ≤ 127 ∧ (∀ d, a.far = some d → 1 ≤ d ∧ d ≤ 127 ∧ d ≠ a.near) ∧
        (s.classes.get a.cls).valid = true ∧ (s.depot a.near).enabled = true ∧
        (∀ d, a.far = some d → (s.depot d).enabled = true)) →
      (s.depot a.origin).enabled = true → s.trailer? a.fleet = none → s.trailers.length < 64 →
      ∃ t, exec (.announce tag a) s = .next (State.replied t 0x91 tag
          (if 60 ≤ a.closingLead ∧ a.closingLead ≤ 3600 ∧ 300 ≤ a.switchLead ∧ a.switchLead ≤ 7200 then .done
           else .doneClamped) []) ∧
        t.trailer? a.fleet = some
          { fleet := a.fleet, role := role, origin := a.origin, near := a.near, far := a.far, cls := a.cls,
            window := a.window, tdep := a.tdep, closingLead := max 60 (min 3600 a.closingLead),
            switchLead := max 300 (min 7200 a.switchLead), gate := none, dock := none, lapses := 0, late := false,
            early := false, expected := 0, taken := 0, loaded := 0, door := none, buffer := none, state := .announced } ∧
        (∀ f, f ≠ a.fleet → t.trailer? f = s.trailer? f) ∧ Subject.trailer a.fleet ∈ t.link.reports ∧
        { t with trailers := s.trailers, link := s.link } = s ∧ { t.link with reports := s.link.reports } = s.link) ∧
  (
    ∀ (tag : Byte) (f : Nat) (a : AmendFields) (s : State) (tr : TrailerRec), s.takes (.amendTrailer tag f a) = true →
      s.started = true → s.surveying = false → s.trailer? f = some tr →
      (tr.state = .announced ∨ tr.state = .yard ∨ tr.state = .called) → (∀ x, a.tdep = some x → x ≤ 86399) →
      (∀ x, a.far = some x → x ≠ 0 → x ≤ 127 ∧ tr.role ≠ .inbound ∧ x ≠ tr.near ∧ (s.depot x).enabled = true) →
      ∃ t, exec (.amendTrailer tag f a) s = .next t ∧
        s.shows t 0x94 tag
          (if (∀ x, a.closingLead = some x → 60 ≤ x ∧ x ≤ 3600) ∧ (∀ x, a.switchLead = some x → 300 ≤ x ∧ x ≤ 7200) then .done
           else .doneClamped) [] = true ∧
        t.trailer? f = some { tr with
          tdep := a.tdep.getD tr.tdep
          closingLead := (a.closingLead.map (fun x => max 60 (min 3600 x))).getD tr.closingLead
          switchLead := (a.switchLead.map (fun x => max 300 (min 7200 x))).getD tr.switchLead
          far := (a.far.map (fun x => if x = 0 then none else some x)).getD tr.far } ∧
        Subject.trailer f ∈ t.link.reports ∧ t.doors = s.doors ∧ t.pallets = s.pallets ∧ t.clock = s.clock) ∧
  (
    ∀ (tag : Byte) (f d : Nat) (a : AmendFields) (s : State) (tr : TrailerRec), s.takes (.amendTrailer tag f a) = true →
      s.started = true → s.surveying = false → s.trailer? f = some tr → tr.state.isBound = true → tr.door = some d → d < 48 →
      (s.door d).bound = some f → (∀ x, a.tdep = some x → x ≤ 86399) →
      (a.far = none ∨ a.far = some 0 ∧ ∃ b p, tr.buffer = some (d, b) ∧ (s.door d).liveNo = some b ∧
        s.livePlan d = some p ∧ p.drop = .far ∧ p.entries = []) →
      let new := { tr with
        tdep := a.tdep.getD tr.tdep
        closingLead := (a.closingLead.map (fun x => max 60 (min 3600 x))).getD tr.closingLead
        switchLead := (a.switchLead.map (fun x => max 300 (min 7200 x))).getD tr.switchLead
        far := if a.far = some 0 then none else tr.far }
      let past := fun lead => s.reached ((new.tdep + (86400 - lead % 86400)) % 86400)
      let turned := (s.livePlan d).any (fun p => p.drop == .far && (a.far == some 0 || past new.switchLead))
      let closes := tr.state == .loading && (past new.closingLead ||
        turned && s.clock.phase == .close && (s.livePlan d).any (fun p => s.exhausted p.near))
      let seals := closes && !s.taskTargets d && ((s.livePlan d).map Plan.reserved).getD 0 == 0
      ∃ t, exec (.amendTrailer tag f a) s = .next t ∧
        s.shows t 0x94 tag
          (if (∀ x, a.closingLead = some x → 60 ≤ x ∧ x ≤ 3600) ∧ (∀ x, a.switchLead = some x → 300 ≤ x ∧ x ≤ 7200) then .done
           else .doneClamped) [] = true ∧
        t.trailer? f = some { new with state := if seals then .sealed else if closes then .closing else tr.state } ∧
        (∀ p, s.livePlan d = some p → ∃ q, t.livePlan d = some q ∧
          q.drop = (if turned then .near else p.drop) ∧ q.far = (if a.far = some 0 then none else p.far) ∧
          q.openRow = (if turned = true ∧ p.entries ≠ [] then p.openRow + 1 else p.openRow) ∧
          q.lost = (if turned = true ∧ p.entries ≠ [] then ((p.rows.take p.openRow).map PlanRow.empties).sum else p.lost) ∧
          q.loading = (if closes then false else p.loading) ∧
          q.sealResult = (if seals then some p.sealConditions else p.sealResult) ∧
          { q with
            drop := p.drop, far := p.far, openRow := p.openRow, lost := p.lost, loading := p.loading,
            sealResult := p.sealResult } = p) ∧
        (∀ l < 96, (t.lane l).stalled =
            (if turned = true ∧ (s.lane l).stalled = (s.livePlan d).map Plan.fleet then none else (s.lane l).stalled) ∧
          (t.lane l).contents = (s.lane l).contents ∧ (t.lane l).reserved = (s.lane l).reserved) ∧
        Subject.trailer f ∈ t.link.reports ∧
        { t.door d with buffer0 := (s.door d).buffer0, buffer1 := (s.door d).buffer1 } = s.door d ∧
        (∀ e, e ≠ d → t.door e = s.door e) ∧ (∀ g, g ≠ f → t.trailer? g = s.trailer? g) ∧
        t.pallets = s.pallets ∧ t.depots = s.depots ∧ t.clock = s.clock) ∧
  (
    ∀ (tag : Byte) (f : Nat) (a : AmendFields) (s : State), s.takes (.amendTrailer tag f a) = true →
      s.started = true → s.surveying = false →
      let refused := fun result => exec (.amendTrailer tag f a) s = .next (s.replied 0x94 tag result []);
      ((∀ tr, s.trailer? f = some tr → tr.state = .departed) → refused .unknown) ∧
      (∀ tr, s.trailer? f = some tr → tr.state ≠ .departed →
        let bad := (∃ x, a.tdep = some x ∧ 86399 < x) ∨
          ∃ x, a.far = some x ∧ x ≠ 0 ∧ (127 < x ∨ tr.role = .inbound ∨ x = tr.near);
        (bad → refused .badValue) ∧
        (¬ bad → (∃ x, a.far = some x ∧ x ≠ 0 ∧ (tr.state.isBound = true ∨ (s.depot x).enabled = false)) →
          refused .conflict) ∧
        (¬ bad → a.far = some 0 → tr.state.isBound = true →
          (∀ p, s.planOf tr = some p → p.drop = .near ∨ p.entries ≠ []) → refused .conflict))) ∧
  (
    ∀ (tag : Byte) (f : Nat) (s : State) (tr : TrailerRec), s.takes (.cancelTrailer tag f) = true → s.started = true →
      s.surveying = false → s.trailer? f = some tr → (tr.state = .announced ∨ tr.state = .yard) →
      (s.pallets.map PalletRec.id).Nodup →
      ∃ t, exec (.cancelTrailer tag f) s = .next t ∧ s.shows t 0x99 tag .done [] = true ∧ t.trailer? f = none ∧
        (∀ g, g ≠ f → (t.trailer? g).isSome = (s.trailer? g).isSome) ∧
        t.pallets = ((s.pallets.filter (fun r => r.place != .expected f)).map (fun r =>
          if r.inbound = some f then { r with inbound := none } else r)) ∧
        Subject.trailer f ∉ t.link.reports ∧
        (∀ d < 48, tr.state = .yard → tr.door = some d → f ∉ (t.door d).queue) ∧ t.clock = s.clock)

/-- An accepted GateArrival places the trailer at the tail of its door's yard queue with its gate time now and no lapse, late
when its window has ended; the call check then calls it, or another of the queue, or nothing. The call check: a FREE door in a
night phase that is not ending calls the first callable trailer of its queue, which leaves the queue and becomes CALLED with the
timer's end a call time from now; when any condition fails nothing changes. It is what a reached window start makes for the
queued trailer's door. A call that lapses raises the trailer's lapse count: a first lapse returns it to the yard at the tail of
the queue, and a second one to ANNOUNCED with its door absent and a CALL_LAPSED exception; the door becomes FREE, and the call check,
made at once, calls the first callable trailer of its queue in a night phase that is not ending, the same one if it is that. -/
def Obligations.YardQueuesAndCalls : Prop :=
  (
    ∀ (tag : Byte) (f d : Nat) (s : State) (tr : TrailerRec), s.takes (.gateArrival tag f) = true → s.started = true →
      s.surveying = false → s.trailer? f = some tr → tr.state = .announced →
      (s.depot (if tr.role = .inbound then tr.origin else tr.near)).home = some d → d < 48 → (s.door d).state ≠ .off →
      ∃ t u, exec (.gateArrival tag f) s = .next t ∧ s.shows t 0x93 tag .done [] = true ∧ t.trailer? f = some u ∧
        { u with state := tr.state } = { tr with
          door := some d, gate := some s.now, lapses := 0,
          late := tr.late || (s.inNight && (tr.window.map (fun w => decide (s.offset w.2 < s.offset s.now))).getD false) } ∧
        ((u.state = .yard ∧ f ∈ (t.door d).queue) ∨
          (u.state = .called ∧ (t.door d).state = .called ∧ (t.door d).called = some f)) ∧
        ((s.door d).state ≠ .free ∨ s.working = false →
          u.state = .yard ∧ t.door d = { s.door d with queue := (s.door d).queue ++ [f] }) ∧
        (∀ e, e ≠ d → t.door e = s.door e) ∧ t.pallets = s.pallets ∧ t.lanes = s.lanes ∧ t.trucks = s.trucks) ∧
  (
    (∀ (s : State) (d : Nat), d < 48 →
      ((s.door d).state ≠ .free ∨ s.working = false ∨ (s.door d).queue.find? s.callable = none → s.callCheck d = s) ∧
      (∀ f tr, (s.door d).state = .free → s.working = true → (s.door d).queue.find? s.callable = some f →
        s.trailer? f = some tr →
        (s.callCheck d).door d = { s.door d with
          state := .called, called := some f, callEnd := some ((s.now + (s.door d).callTime) % 86400),
          queue := (s.door d).queue.filter (· != f) } ∧
        (s.callCheck d).trailer? f = some { tr with state := .called } ∧
        (∀ e, e ≠ d → (s.callCheck d).door e = s.door e) ∧ (∀ g, g ≠ f → (s.callCheck d).trailer? g = s.trailer? g))) ∧
    (∀ (f d : Nat) (s : State) (tr : TrailerRec), s.live = true → s.isDue (.windowStart f) = true →
      s.trailer? f = some tr → tr.door = some d → ∃ t, exec (.windowStartReached f) s = .next t ∧
        t.doors = (s.callCheck d).doors ∧ t.trailers = (s.callCheck d).trailers ∧ t.pallets = s.pallets ∧
        t.exceptions = s.exceptions ∧ t.clock = s.clock)) ∧
  (
    ∀ (d f : Nat) (s : State) (tr : TrailerRec), s.live = true → d < 48 → s.isDue (.callTimer d) = true →
      (s.door d).state = .called → (s.door d).called = some f → s.trailer? f = some tr →
      let queue := if tr.lapses = 0 then (s.door d).queue ++ [f] else (s.door d).queue
      let next := if s.working = true then queue.find? s.callable else none
      ∃ t, exec (.callTimerEnd d) s = .next t ∧
        t.trailer? f = some { tr with
          lapses := tr.lapses + 1, door := if tr.lapses = 0 then tr.door else none,
          state := if next = some f then .called else if tr.lapses = 0 then .yard else .announced } ∧
        (tr.lapses = 0 → t.exceptions = s.exceptions) ∧
        (tr.lapses ≠ 0 → t.exceptions.entries = s.exceptions.raised .callLapsed (.trailer f) s.now s.clock.valid d) ∧
        (next = none → t.door d = { s.door d with
          state := .free, called := none, callEnd := none, bound := none, queue := queue }) ∧
        (∀ g, next = some g → t.door d = { s.door d with
          state := .called, called := some g, callEnd := some ((s.now + (s.door d).callTime) % 86400), bound := none,
          queue := queue.filter (· != g) }) ∧
        (∀ g tg, g ≠ f → s.trailer? g = some tg →
          t.trailer? g = some (if next = some g then { tg with state := .called } else tg)) ∧
        (∀ e, e ≠ d → t.door e = s.door e) ∧ t.pallets = s.pallets ∧ t.clock = s.clock)

/-- AtDoor at an ARRIVED door binds an unbound trailer: the door is BOUND to it with no call standing, the trailer's dock time
is the door's arrival time, and a SWAP or INBOUND trailer is UNLOADING while an OUTBOUND one is READY; a SWAP or OUTBOUND
trailer has a LIVE buffer with an empty plan, and the door's parity toggles. The trailer leaves its yard queue, or its call at
another door ends; another trailer that the door expected is back in the YARD at the head of its queue, its lapse count as it was;
and WRONG_DOOR is raised, with the door numbers as detail, when the door is not the trailer's. In TRANSFER and CLOSE an OUTBOUND
trailer is LOADING at once, its plan marked so, and in its near phase where its far drop is exhausted or its switch time has been
reached; it is CLOSING, or SEALED, in the ending, with its closing time reached, or in CLOSE with its near phase's drop exhausted. -/
def Obligations.AtDoorBindsTheTrailer : Prop :=
  ∀ (tag : Byte) (d f : Nat) (s : State) (tr : TrailerRec), s.takes (.atDoor tag d f) = true → s.started = true →
    s.surveying = false → d < 48 → (s.door d).state = .arrived → s.trailer? f = some tr →
    (tr.state = .announced ∨ tr.state = .yard ∨ tr.state = .called) → (s.door d).liveNo = none →
    let loads := tr.role = .outbound ∧ s.loadPhase = true
    let near := match tr.far with
      | some x => s.exhausted x = true ∨ s.reached tr.switchTime = true
      | none => True
    let closes := s.clock.ending = true ∨ s.reached tr.closingTime = true ∨
      s.clock.phase = .close ∧ near ∧ s.exhausted tr.near = true
    let queue := if tr.state = .yard ∧ tr.door = some d then (s.door d).queue.filter (· != f) else (s.door d).queue
    let home := (s.depot (if tr.role = .inbound then tr.origin else tr.near)).home
    let own := (if tr.state = .announced then home.filter (fun e => (s.door e).state != .off) else tr.door).getD 255
    ∃ t u, exec (.atDoor tag d f) s = .next t ∧ s.shows t 0x95 tag .done [] = true ∧ t.trailer? f = some u ∧
      u.door = some d ∧ u.dock = (s.door d).arrival ∧
      (¬ loads → u.state = if tr.role = .outbound then .ready else .unloading) ∧
      (t.door d).state = .bound ∧ (t.door d).bound = some f ∧ (t.door d).called = none ∧ (t.door d).callEnd = none ∧
      (t.door d).parity = (if tr.role = .inbound then (s.door d).parity else 1 - (s.door d).parity) ∧
      (t.door d).queue = (match (s.door d).called with
        | some g => if g = f then queue else g :: queue
        | none => queue) ∧
      (∀ g tg, (s.door d).called = some g → g ≠ f → s.trailer? g = some tg →
        ∃ v, t.trailer? g = some v ∧ v.state = .yard ∧ v.lapses = tg.lapses) ∧
      (∀ e < 48, tr.door = some e → e ≠ d →
        (tr.state = .yard → f ∉ (t.door e).queue) ∧
        (tr.state = .called → (s.door e).state ≠ .called → (t.door e).called = none) ∧
        (tr.state = .called → (s.door e).state = .called → s.working = false →
          (t.door e).state = .free ∧ (t.door e).called = none)) ∧
      (¬ loads ∨ ¬ closes → t.exceptions.entries =
        if own = d then s.exceptions.entries
        else s.exceptions.raised .wrongDoor (.trailer f) s.now s.clock.valid (d * 256 + own)) ∧
      (tr.role ≠ .inbound → ∃ b, u.buffer = some (d, b) ∧ (t.door d).liveNo = some b ∧
        (¬ loads → t.livePlan d = some
          { fleet := tr.fleet, classNo := tr.cls, figures := s.classes.get tr.cls, near := tr.near, far := tr.far,
            parity := (s.door d).parity, drop := if tr.far.isSome then .far else .near, openRow := 1,
            rows := List.replicate (s.classes.get tr.cls).rows { a := [], b := [] }, weight := 0, moment := 0,
            weightA := 0, weightB := 0, reserved := 0, lost := 0, loading := false, sealResult := none })) ∧
      (loads → closes → u.state = .closing ∨ u.state = .sealed) ∧
      (loads → ¬ closes → u.state = .loading ∧
        ∃ q, t.livePlan d = some q ∧ q.fleet = f ∧ q.loading = true ∧ q.openRow = 1 ∧ q.entries = [] ∧
          (q.drop = .near ↔ near)) ∧
      t.pallets = s.pallets ∧ t.depots = s.depots ∧ t.clock = s.clock

/-- The end of unloading, by EndUnload or by EmptyTrailer of a truck on an UNLOAD run at the trailer's door: every record still
EXPECTED on the trailer becomes MISSING, last known on it, and an INBOUND trailer is EMPTIED and a SWAP one READY, or, in TRANSFER
and CLOSE, LOADING with its plan marked so (shown where nothing closes it at once). -/
def Obligations.EndOfUnloadingEmptiesTheTrailer : Prop :=
  ∀ (d f : Nat) (s : State) (tr : TrailerRec), s.trailer? f = some tr → tr.state = .unloading → tr.door = some d → d < 48 →
    (tr.role = .inbound ∨ tr.role = .swap) → (s.pallets.map PalletRec.id).Nodup →
    let ends := fun (t : State) =>
      (tr.role = .inbound ∨ s.loadPhase = false →
        t.trailer? f = some { tr with state := if tr.role = .inbound then .emptied else .ready }) ∧
      (∀ p, tr.role = .swap → s.loadPhase = true → s.clock.ending = false → s.reached tr.closingTime = false →
        (s.door d).bound = some f → s.livePlan d = some p → p.near = tr.near →
        s.clock.phase = .transfer ∨ t.exhausted tr.near = false →
        t.trailer? f = some { tr with state := .loading } ∧
        ∃ q, t.livePlan d = some q ∧ q.loading = true ∧ q.near = p.near ∧ q.rows = p.rows) ∧
      (∀ r ∈ s.pallets, t.pallet? r.id =
        some (if r.place = .expected f then { r with place := .missing (.trailer f) } else r)) ∧
      ((∃ r ∈ s.pallets, r.place = .expected f) → t.recorded .shortDelivery (.trailer f) = true)
    (∀ tag : Byte, s.takes (.endUnload tag f) = true → s.started = true → s.surveying = false →
      ∃ t, exec (.endUnload tag f) s = .next t ∧ s.shows t 0x96 tag .done [] = true ∧ ends t) ∧
    (∀ (n : Nat) (run : Run), s.hears n = true → (s.truck n).state = .onRun → (s.truck n).run = some run →
      run.kind = .unload → run.source = .door d → (s.door d).state = .bound → (s.door d).bound = some f →
      ∃ t, exec (.emptyTrailer n) s = .next t ∧ t.floor.replies = s.floor.replies ∧ ends t)

/-- A trailer that becomes CLOSING, at its closing time or by CloseTrailer, is SEALED at once when no task targets its door and
its plan holds no reserved entry; CloseTrailer closes a READY trailer too and leaves a CLOSING or SEALED one as it is. A Tdep
reached raises LATE_DEPARTURE with the trailer's state code as detail, for a trailer in any state but DEPARTED, and changes no
trailer, door or pallet. The seal check evaluates the seal conditions on the plan's totals, the lateral one only when the last row
that holds an entry is full, records the result in the plan, and raises SEAL_AXLE with its value when one fails. -/
def Obligations.TrailersCloseSealAndRunLate : Prop :=
  (
    ∀ (d f : Nat) (s : State) (tr : TrailerRec), s.trailer? f = some tr → tr.door = some d → d < 48 →
      let after := if s.taskTargets d = false ∧ ((s.livePlan d).map Plan.reserved).getD 0 = 0 then TrailerState.sealed
        else .closing
      (tr.state = .loading → s.live = true → s.isDue (.closing f) = true → ∃ t, exec (.closingTimeReached f) s = .next t ∧
        t.trailer? f = some { tr with state := after } ∧ t.pallets = s.pallets ∧ t.clock = s.clock) ∧
      (∀ tag : Byte, s.takes (.closeTrailer tag f) = true → s.started = true → s.surveying = false →
        ((tr.state = .loading ∨ tr.state = .ready) → ∃ t, exec (.closeTrailer tag f) s = .next t ∧
          s.shows t 0x98 tag .done [] = true ∧ t.trailer? f = some { tr with state := after } ∧ t.pallets = s.pallets ∧
          t.clock = s.clock) ∧
        ((tr.state = .closing ∨ tr.state = .sealed) → ∃ t, exec (.closeTrailer tag f) s = .next t ∧
          s.shows t 0x98 tag .done [] = true ∧ t.trailers = s.trailers ∧ t.doors = s.doors) ∧
        ((tr.state = .unloading ∨ tr.state = .emptied ∨ tr.state = .yard ∨ tr.state = .called ∨ tr.state = .announced) →
          exec (.closeTrailer tag f) s = .next (s.replied 0x98 tag .notNow [])))) ∧
  (
    ∀ (f : Nat) (s : State) (tr : TrailerRec), s.live = true → s.isDue (.tdep f) = true → s.trailer? f = some tr →
      ∃ t, exec (.tdepReached f) s = .next t ∧
        (tr.state ≠ .departed →
          t.exceptions.entries = s.exceptions.raised .lateDeparture (.trailer f) s.now s.clock.valid tr.state.code) ∧
        (tr.state = .departed → t.exceptions = s.exceptions) ∧
        t.trailers = s.trailers ∧ t.doors = s.doors ∧ t.pallets = s.pallets ∧ t.depots = s.depots ∧ t.clock = s.clock) ∧
  (
    ∀ (d f : Nat) (s : State) (tr : TrailerRec) (p : Plan), s.trailer? f = some tr → tr.state = .closing → tr.door = some d →
      s.livePlan d = some p → s.taskTargets d = false → p.reserved = 0 →
      let t := s.sealCheck f
      let axle := p.figures.amax * p.figures.axleX < p.moment
      let kingpin := p.figures.kmax * p.figures.axleX + p.moment < p.weight * p.figures.axleX
      ∃ r : SealResult, (r.axle = true ↔ axle) ∧ (r.kingpin = true ↔ kingpin) ∧
        (∀ row rest, p.rows.reverse.dropWhile (fun x => x.a.isEmpty && x.b.isEmpty) = row :: rest →
          (r.lateral = true ↔ row.a ≠ [] ∧ row.b ≠ [] ∧ ∃ dlat, p.figures.dlat = some dlat ∧
            (dlat < p.weightA - p.weightB ∨ dlat < p.weightB - p.weightA))) ∧
        (p.entries = [] → r.lateral = false) ∧
        t.livePlan d = some { p with sealResult := some r } ∧
        t.trailer? f = some { tr with state := .sealed } ∧
        let n := r.axle.toNat + 2 * r.kingpin.toNat + 4 * r.lateral.toNat
        t.exceptions.entries =
          if n = 0 then s.exceptions.entries else s.exceptions.raised .sealAxle (.trailer f) s.now s.clock.valid n)

/-- The drop switch, at a bound trailer's switch time or by SwitchDrop: the plan is in its near phase, its open row one on when
it holds an entry, with the positions behind recounted, and no lane stays stalled for the trailer; SwitchDrop replies with the
open row (log entry 11). -/
def Obligations.DropSwitchAdvancesTheOpenRow : Prop :=
  ∀ (d f b : Nat) (s : State) (tr : TrailerRec) (p : Plan), s.trailer? f = some tr → tr.state.isBound = true →
    tr.door = some d → d < 48 → tr.buffer = some (d, b) → (s.door d).liveNo = some b → s.livePlan d = some p →
    p.drop = .far →
    let row := if p.entries = [] then p.openRow else p.openRow + 1
    let switched := fun (t : State) => ∃ q, t.livePlan d = some q ∧ q.drop = .near ∧ q.openRow = row ∧ q.rows = p.rows ∧
      q.weight = p.weight ∧ q.moment = p.moment ∧ q.reserved = p.reserved ∧
      (p.entries ≠ [] → q.lost = ((p.rows.take (row - 1)).map PlanRow.empties).sum) ∧
      ∀ l < 96, (t.lane l).stalled = if (s.lane l).stalled = some p.fleet then none else (s.lane l).stalled
    (s.live = true → s.isDue (.switch f) = true → ∃ t, exec (.switchTimeReached f) s = .next t ∧ switched t ∧
      t.pallets = s.pallets ∧ t.clock = s.clock) ∧
    (∀ tag : Byte, s.takes (.switchDrop tag f) = true → s.started = true → s.surveying = false → ∃ t,
      exec (.switchDrop tag f) s = .next t ∧ s.shows t 0x97 tag .done [BitVec.ofNat 8 row] = true ∧ switched t ∧
      t.pallets = s.pallets ∧ t.clock = s.clock)

/-! ### Lanes, the census and classes (chapters 5 and 6) -/

/-- SetCensus clamps P, when it is not 0, to 600 to 7200 and Tc to 60 to 900, stores them with G, and with P at 0 makes every
next due time absent. SetClass with every field in range writes the class and sets its valid flag, and a field out of range
refuses it BAD_VALUE, never clamped. -/
def Obligations.CensusAndClassSettings : Prop :=
  (
    ∀ (tag : Byte) (p g tc : Nat) (s : State), s.takes (.setCensus tag p g tc) = true →
      (s.surveying = true → exec (.setCensus tag p g tc) s = .next (s.replied 0x87 tag .notNow [])) ∧
      (s.surveying = false → g ≠ 1 → g ≠ 2 → g ≠ 4 → exec (.setCensus tag p g tc) s = .next (s.replied 0x87 tag .badValue [])) ∧
      (s.surveying = false → (g = 1 ∨ g = 2 ∨ g = 4) →
        (g ≠ s.census.groups → s.inNight = false ∧ ∀ n < 4, (s.group n).stage = .none) →
        let q := if p = 0 then 0 else max 600 (min 7200 p)
        let w := max 60 (min 900 tc)
        ∃ t, exec (.setCensus tag p g tc) s = .next t ∧
          s.shows t 0x87 tag (if q = p ∧ w = tc then .done else .doneClamped) [] = true ∧
          t.census.interval = q ∧ t.census.groups = g ∧ t.census.timeout = w ∧
          (∀ n < 4, t.group n = if q = 0 then { s.group n with nextDue := none } else s.group n) ∧
          { t with census := s.census, link := s.link } = s)) ∧
  (
    ∀ (tag : Byte) (n : Nat) (c : ClassFields) (s : State), s.takes (.setClass tag n c) = true → s.surveying = false →
      (∀ pattern, n ≤ 7 → 4 ≤ c.rows → c.rows ≤ 16 → 18 ≤ c.hmax → c.hmax ≤ 30 → 1000 ≤ c.wmax → c.wmax ≤ 30000 →
        8 ≤ c.axleX → c.axleX ≤ 40 → 1000 ≤ c.kmax → c.kmax ≤ 30000 → 1000 ≤ c.amax → c.amax ≤ 30000 →
        1 ≤ c.tiers → c.tiers ≤ 3 → (∀ x, c.dlat = some x → x ≤ 5000) → c.pattern = SidePattern.code pattern →
        (∀ t ∈ s.trailers, t.role ≠ .inbound → t.cls = n →
          t.state ≠ .unloading ∧ t.state ≠ .ready ∧ t.state ≠ .loading ∧ t.state ≠ .closing ∧ t.state ≠ .sealed) →
        let record : ClassRec :=
          { rows := c.rows, hmax := c.hmax, wmax := c.wmax, axleX := c.axleX, kmax := c.kmax, amax := c.amax,
            tiers := c.tiers, dlat := c.dlat, pattern := pattern, flip := c.flip, valid := true }
        exec (.setClass tag n c) s =
          .next (State.replied { s with classes := s.classes.set n record } 0x88 tag .done [])) ∧
      (7 < n ∨ c.rows < 4 ∨ 16 < c.rows ∨ c.hmax < 18 ∨ 30 < c.hmax ∨ c.wmax < 1000 ∨ 30000 < c.wmax ∨ c.axleX < 8 ∨
        40 < c.axleX ∨ c.kmax < 1000 ∨ 30000 < c.kmax ∨ c.amax < 1000 ∨ 30000 < c.amax ∨ c.tiers < 1 ∨ 3 < c.tiers ∨
        (∃ x, c.dlat = some x ∧ 5000 < x) ∨ 2 < c.pattern →
        exec (.setClass tag n c) s = .next (s.replied 0x88 tag .badValue [])))

/-- What a lane's operations keep: the level within the capacity, the nearly-full flag as its rule gives it, and no pallet twice
among the contents. A place is reserved only where there is room; a drop is confirmed against a reservation, of a pallet that is
no member. And every step keeps every lane's level within its capacity, its nearly-full flag right, and a reservation for each task
that targets it. -/
def Obligations.LaneOperationsKeepLevels : Prop :=
  (∀ s t : State, s.LanesHeld → step s = .next t → t.LanesHeld) ∧
  ∀ (s : State) (l p t : Nat), l < 96 → (s.lane l).Sound →
    ((s.lane l).hasRoom = true → ((s.reserve l).lane l).Sound ∧ ((s.reserve l).lane l).level = (s.lane l).level + 1) ∧
    ((s.unreserve l).lane l).Sound ∧
    (1 ≤ (s.lane l).reserved → p ∉ (s.lane l).contents →
      ((s.confirmDrop l p).lane l).Sound ∧ ((s.confirmDrop l p).lane l).level = (s.lane l).level ∧
      (∀ q, q ∈ ((s.confirmDrop l p).lane l).contents ↔ q = p ∨ q ∈ (s.lane l).contents)) ∧
    ((s.lane l).hasRoom = true → p ∉ (s.lane l).contents → ((s.recoverAppend l p).lane l).Sound) ∧
    ((s.headTake l p).lane l).Sound ∧ (∀ q, q ∈ ((s.headTake l p).lane l).contents ↔ q ≠ p ∧ q ∈ (s.lane l).contents) ∧
    ((s.bayTake l p).lane l).Sound ∧ ((s.holdLane l t).lane l).Sound ∧ ((s.claimHead l t).lane l).Sound ∧
    ((s.releaseLane l t).lane l).Sound ∧ ((s.stall l t).lane l).Sound

/-- Staging selection yields a lane of the depot's group, bound to it and with room: the priority lane for a PREMIUM pallet when
it can, else the first ordinary lane in group order that is not nearly full, else the first ordinary lane with room. A STANDARD
pallet is never given the priority lane. It yields none when no ordinary lane has room, nor, for a PREMIUM pallet, the priority
lane; bay selection then gives a bay, with a LANE_FULL about the first lane of the group. Bay selection reserves the
lowest-numbered OPEN bay with room; with none it reserves nothing and raises NO_PLACE, with no subject and the pallet id as
detail. -/
def Obligations.LaneSelection : Prop :=
  (
    ∀ (s : State) (d : Nat) (service : Service),
      let dep := s.depot d
      let premiumFirst := service = .premium ∧ dep.priority = true ∧ 2 ≤ dep.group.length
      let ordinary := if dep.priority = true ∧ 2 ≤ dep.group.length then dep.group.tail else dep.group
      let room := fun l => (s.lane l).binding = .depot d ∧ (s.lane l).state = .open_ ∧ (s.lane l).level < (s.lane l).capacity
      (∀ l, s.stagingLane d service = some l → l ∈ dep.group ∧ room l) ∧
      (∀ l, premiumFirst → dep.group.head? = some l → room l → s.stagingLane d service = some l) ∧
      (∀ l before after, (premiumFirst → ∀ m, dep.group.head? = some m → ¬ room m) → ordinary = before ++ l :: after → room l →
        (((s.lane l).nearlyFull = false ∧ ∀ m ∈ before, ¬ (room m ∧ (s.lane m).nearlyFull = false)) ∨
          ((∀ m ∈ ordinary, ¬ (room m ∧ (s.lane m).nearlyFull = false)) ∧ ∀ m ∈ before, ¬ room m)) →
        s.stagingLane d service = some l) ∧
      ((∀ l ∈ dep.group, ¬ room l) → s.stagingLane d service = none) ∧
      (∀ l, s.stagingLane d .standard = some l → l ∈ ordinary) ∧
      ((∀ l ∈ ordinary, ¬ room l) → (premiumFirst → ∀ l, dep.group.head? = some l → ¬ room l) →
        s.stagingLane d service = none)) ∧
  (
    ∀ (s : State) (r : PalletRec),
      let open_ := fun l => (s.lane l).binding = .hold ∧ (s.lane l).state = .open_ ∧ (s.lane l).level < (s.lane l).capacity
      let t := (s.selectStaging r).2
      (∀ l < 96, s.stagingLane r.dest r.service = some l →
        (s.selectStaging r).1 = some (.lane l) ∧ (t.lane l).reserved = (s.lane l).reserved + 1 ∧
        (∀ m, m ≠ l → t.lane m = s.lane m) ∧ t.exceptions = s.exceptions) ∧
      (∀ l rest b, s.stagingLane r.dest r.service = none → (s.depot r.dest).group = l :: rest →
        b < 96 → open_ b → (∀ m < b, ¬ open_ m) →
        (s.selectStaging r).1 = some (.lane b) ∧ (t.lane b).reserved = (s.lane b).reserved + 1 ∧
        (∀ m, m ≠ b → t.lane m = s.lane m) ∧
        t.exceptions.entries = s.exceptions.raised .laneFull (.lane l) s.now s.clock.valid r.id) ∧
      (s.stagingLane r.dest r.service = none → (∀ l < 96, ¬ open_ l) →
        (s.selectStaging r).1 = none ∧ t.lanes = s.lanes ∧
        t.exceptions.entries = s.exceptions.raised .noPlace .none s.now s.clock.valid r.id)) ∧
  (
    ∀ (s : State) (p : Nat) (overflow : Option Nat),
      let open_ := fun l => (s.lane l).binding = .hold ∧ (s.lane l).state = .open_ ∧ (s.lane l).level < (s.lane l).capacity
      (∀ b < 96, open_ b → (∀ l < b, ¬ open_ l) →
        (s.selectBay p overflow).1 = some (.lane b) ∧
        (s.selectBay p overflow).2.lane b = ({ s.lane b with reserved := (s.lane b).reserved + 1 } : LaneRec).evaluated ∧
        (∀ l, l ≠ b → (s.selectBay p overflow).2.lane l = s.lane l) ∧
        (s.selectBay p overflow).2.exceptions.entries =
          (match overflow with
           | none => s.exceptions.entries
           | some l => s.exceptions.raised .laneFull (.lane l) s.now s.clock.valid p)) ∧
      ((∀ l < 96, ¬ open_ l) →
        (s.selectBay p overflow).1 = none ∧ (s.selectBay p overflow).2.lanes = s.lanes ∧
        (s.selectBay p overflow).2.exceptions.entries = s.exceptions.raised .noPlace .none s.now s.clock.valid p))

/-- A census that starts, on command or at its due time, makes its lanes CENSUS_PENDING, and they are LOCKED at once, with the
timer running, when nothing is under way in any of them; with a reservation or a task out in one the group stays PENDING. A due
time reached moves on by P whether or not a census starts. That a group which falls due with no bound lane is LOCKED too, with an
empty list and the timer running, is the model's: DEDUCED (log entry 15). -/
def Obligations.CensusStartsPendingOrLocked : Prop :=
  ∀ (g : Nat) (s : State), g < 4 → (s.group g).stage = .none → 1 ≤ s.census.groups →
    let started := fun (lanes : List Nat) (t : State) =>
      (t.group g).lanes = lanes ∧
      ((∀ l ∈ lanes, (s.lane l).idle = true) → (t.group g).stage = .locked ∧
        (t.group g).timerEnd = some ((s.now + s.census.timeout) % 86400) ∧ ∀ l ∈ lanes, (t.lane l).state = .locked) ∧
      ((∃ l ∈ lanes, (s.lane l).reserved ≠ 0 ∨ (s.lane l).tasksOut ≠ 0) → (t.group g).stage = .pending ∧
        ∀ l ∈ lanes, (t.lane l).state = .pending) ∧
      t.pallets = s.pallets ∧ t.trailers = s.trailers ∧ t.clock = s.clock
    (∀ (tag : Byte) (l : Nat), s.takes (.censusNowLane tag l) = true → s.started = true → s.surveying = false → l < 96 →
      (s.lane l).binding ≠ .none → l % s.census.groups = g →
      ∃ t, exec (.censusNowLane tag l) s = .next t ∧ s.shows t 0xA9 tag .done [] = true ∧ started [l] t) ∧
    (∀ tag : Byte, s.takes (.censusNowGroup tag g) = true → s.started = true → s.surveying = false → g < s.census.groups →
      s.groupLanes g ≠ [] →
      ∃ t, exec (.censusNowGroup tag g) s = .next t ∧ s.shows t 0xA9 tag .done [] = true ∧ started (s.groupLanes g) t) ∧
    (∀ due, s.live = true → s.isDue (.censusDue g) = true → (s.group g).nextDue = some due →
      ∃ t, exec (.censusDueTime g) s = .next t ∧ (t.group g).nextDue = some ((due + s.census.interval) % 86400) ∧
        ((s.clock.phase = .intake ∨ s.clock.phase = .transfer) → started (s.groupLanes g) t) ∧
        (s.clock.phase ≠ .intake → s.clock.phase ≠ .transfer →
          (t.group g).stage = .none ∧ ∀ l, (t.lane l).state = (s.lane l).state))

/-- A census result for a LOCKED lane, of pallets that are all members of it: the members listed stay in their order, the others
become MISSING, last known in the lane, and the lane is reopened with its last census now; the reply carries the numbers, and
CENSUS_MISMATCH is recorded when any member is not listed. A listed pallet that is no member is moved in while the lane has room,
from the lane in which it was STAGED or HELD or from MISSING, and becomes STAGED in a depot lane and HELD in a bay; one without a
record, one that is EXPECTED, MOVING or LOADED, and one that finds the lane full is not placed and stays where it was; each is a
difference. A census that times out reopens every lane still LOCKED with its
unverified flag set and its contents as they were, records CENSUS_TIMEOUT for each, and ends. -/
def Obligations.CensusResultsAndTimeouts : Prop :=
  (
    ∀ (tag : Byte) (l : Nat) (ids : List Nat) (s : State), s.takes (.censusResult tag l ids.length ids 0) = true →
      s.started = true → s.surveying = false → l < 96 → (s.lane l).state = .locked → ids.length ≤ 64 → 0 ∉ ids → ids.Nodup →
      (∀ p ∈ ids, p ∈ (s.lane l).contents) → (s.lane l).contents.Nodup → (s.pallets.map PalletRec.id).Nodup →
      ∃ t, exec (.censusResult tag l ids.length ids 0) s = .next t ∧
        s.shows t 0xAA tag .done
          [BitVec.ofNat 8 ids.length, BitVec.ofNat 8 ((s.lane l).contents.length - ids.length), 0, 0] = true ∧
        (t.lane l).state = .open_ ∧ (t.lane l).unverified = false ∧ (t.lane l).lastCensus = some s.now ∧
        (t.lane l).contents = (s.lane l).contents.filter (fun p => ids.contains p) ∧
        (∀ r ∈ s.pallets, t.pallet? r.id =
          some (if r.id ∈ (s.lane l).contents ∧ r.id ∉ ids then { r with place := .missing (.lane l) } else r)) ∧
        ((∃ p ∈ (s.lane l).contents, p ∉ ids) → t.recorded .censusMismatch (.lane l) = true) ∧
        t.clock = s.clock) ∧
  (
    ∀ (tag : Byte) (l p : Nat) (s : State),
      let members := (s.lane l).contents
      let ids := members ++ [p]
      let c := Instr.censusResult tag l ids.length ids 0
      s.takes c = true → s.started = true → s.surveying = false → l < 96 → (s.lane l).state = .locked → ids.length ≤ 64 →
      0 ∉ ids → ids.Nodup → (s.pallets.map PalletRec.id).Nodup →
      let answer := fun (moved left : Byte) (t : State) =>
        s.shows t 0xAA tag .done [BitVec.ofNat 8 members.length, 0, moved, left] = true ∧ (t.lane l).state = .open_ ∧
        t.recorded .censusMismatch (.lane l) = true ∧ (∀ q, q ≠ p → t.pallet? q = s.pallet? q)
      (∀ r, s.pallet? p = some r → (s.lane l).level < (s.lane l).capacity →
        ((∃ x, r.place = .missing x) ∨ ∃ m, m ≠ l ∧ (r.place = .staged m ∨ r.place = .held m)) →
        ∃ t, exec c s = .next t ∧ answer 1 0 t ∧
          (t.lane l).contents = (if (s.lane l).fifo = true then members ++ [p] else insertAsc id p members) ∧
          t.pallet? p = some { r with place := if (s.lane l).fifo = true then .staged l else .held l } ∧
          (∀ m < 96, m ≠ l → r.place = .staged m ∨ r.place = .held m →
            (t.lane m).contents = (s.lane m).contents.filter (· != p))) ∧
      ((s.lane l).capacity ≤ (s.lane l).level ∨ s.pallet? p = none ∨
          (∃ r, s.pallet? p = some r ∧ (r.place.state = .expected ∨ r.place.state = .moving ∨ r.place.state = .loaded)) →
        ∃ t, exec c s = .next t ∧ answer 0 1 t ∧ t.pallet? p = s.pallet? p ∧
          ∀ m, (t.lane m).contents = (s.lane m).contents)) ∧
  (
    ∀ (g : Nat) (s : State), s.live = true → g < 4 → s.isDue (.censusTimeout g) = true → (s.group g).stage = .locked →
      (∀ l ∈ (s.group g).lanes, l < 96) →
      ∃ t, exec (.censusTimeout g) s = .next t ∧
        (t.group g).stage = .none ∧ (t.group g).lanes = [] ∧ (t.group g).timerEnd = none ∧
        (∀ l ∈ (s.group g).lanes, (s.lane l).state = .locked →
          (t.lane l).state = .open_ ∧ (t.lane l).unverified = true ∧ (t.lane l).contents = (s.lane l).contents ∧
          (t.lane l).lastCensus = (s.lane l).lastCensus ∧ t.recorded .censusTimeout (.lane l) = true) ∧
        (∀ l, l ∉ (s.group g).lanes ∨ (s.lane l).state ≠ .locked →
          (t.lane l).state = (s.lane l).state ∧ (t.lane l).contents = (s.lane l).contents) ∧
        t.pallets = s.pallets ∧ t.doors = s.doors ∧ t.clock = s.clock)

/-! ### Load planning (chapter 6) -/

/-- A plan starts sound and every operation keeps it so: its totals equal its entries, its payload, stack, bearing and hazard
limits hold, its reserved count and its lost positions are right, and nothing stands behind the open row. And every step keeps the
totals, the limits and the lost positions of every plan in every buffer. The confirmation and the release of a pallet's reserved
entry, which stands on top of its stack: a confirmation marks that entry confirmed, lowers the reserved count by one, and changes
nothing else, no total and no position; a release takes that entry out of its stack, lowers the reserved count by one and the weight,
the moment and its side's weight by what the entry added to them, recounts the lost positions, and changes nothing else. A plan
without a reserved entry of the pallet is left as it is by both. -/
def Obligations.PlanOperationsKeepTheLimits : Prop :=
  (∀ s t : State, s.PlansHeld → step s = .next t → t.PlansHeld) ∧
  (∀ (t : TrailerRec) (c : ClassRec) (parity : Nat), (Plan.start t c parity).Sound) ∧
  (∀ (p q : Plan) (e : Entry) (at_ : Place), p.Sound → 1 ≤ p.figures.tiers → p.hasReserved e.id = false →
    p.openRow ≤ p.figures.rows → p.place e = .placed q at_ → q.Sound) ∧
  (∀ (p : Plan) (id : Nat), p.Sound → (p.confirm id).Sound ∧ (p.release id).Sound) ∧
  (∀ (p : Plan) (id : Nat), (∀ e ∈ p.entries, e.id = id → e.confirmed = true) → p.confirm id = p ∧ p.release id = p) ∧
  (∀ (p : Plan) (e : Entry), p.Sound → e ∈ p.entries → e.confirmed = false → ∃ r x below,
    1 ≤ r ∧ r ≤ p.rows.length ∧ p.stack r x = below ++ [e] ∧
    let others := fun q : Plan => ∀ (r' : Nat) (x' : Side), 1 ≤ r' → (r' ≠ r ∨ x' ≠ x) → q.stack r' x' = p.stack r' x'
    let c := p.confirm e.id
    let q := p.release e.id;
    (c.stack r x = below ++ [{ e with confirmed := true }] ∧ others c ∧ c.reserved + 1 = p.reserved ∧
      { c with rows := p.rows, reserved := p.reserved } = p) ∧
    (q.stack r x = below ∧ others q ∧ q.reserved + 1 = p.reserved ∧ q.weight + e.weight = p.weight ∧
      q.moment + e.weight * (2 * r - 1) = p.moment ∧ q.weightA + (if x = .a then e.weight else 0) = p.weightA ∧
      q.weightB + (if x = .b then e.weight else 0) = p.weightB ∧
      q.lost = ((q.rows.take (p.openRow - 1)).map PlanRow.empties).sum ∧
      { q with
        rows := p.rows, weight := p.weight, moment := p.moment, weightA := p.weightA, weightB := p.weightB,
        reserved := p.reserved, lost := p.lost } = p)) ∧
  (∀ p : Plan, p.Sound → p.openRow ≤ p.figures.rows → p.switched.Sound)

/-- A placement is accepted exactly when the drop, payload and height checks pass and some candidate passes its checks; the
entry goes on top of the first such candidate's stack, at the tier above those it held, within the open row or the next, every other
stack stands as it did, and the axle and kingpin limits hold of the plan it makes; the weight, the moment, the side's weight and the
reserved count rise by the entry's part, the lost positions are recounted where the next row is opened, and nothing else of the plan
changes; a refused request names the first check that failed, or NO_ROOM when there is no candidate (that a pallet too high is
refused HEIGHT on a plan past its last row too is the model's: log entry 27). That the stack reads so asks for the rows of the plan's
class and an open row of at least 1, which every plan has (`Plan.Bounded`). The candidates are the stacks of the open row that the
pallet can stand on, lowest first and then the start side's; the open row's empty positions, the start side's first; and the start side of the next row, if there is one. A candidate fails by the
hazard rule, else by the lever check, else by the lateral check. -/
def Obligations.PlacementTakesTheFirstCandidateThatPasses : Prop :=
  ∀ (p : Plan) (e : Entry),
    (¬ (p.loading = true ∧ e.dest ≠ 0 ∧ e.dest = p.current) → p.place e = .refused .drop) ∧
    (p.loading = true → e.dest ≠ 0 → e.dest = p.current →
      (p.figures.wmax < p.weight + e.weight → p.place e = .refused .overWeight) ∧
      (p.weight + e.weight ≤ p.figures.wmax → p.figures.hmax < e.height → p.place e = .refused .height) ∧
      (p.weight + e.weight ≤ p.figures.wmax → e.height ≤ p.figures.hmax →
        (p.openRow = p.figures.rows + 1 → p.place e = .refused .noRoom) ∧
        (p.candidates e = [] → p.place e = .refused .noRoom) ∧
        ((∃ c ∈ p.candidates e, p.failure c e = none) → ∃ q at_, p.place e = .placed q at_) ∧
        (∀ q at_, p.place e = .placed q at_ →
          (at_.row = p.openRow ∨ at_.row = p.openRow + 1) ∧ at_.tier = (p.stack at_.row at_.side).length + 1 ∧
          q.weight = p.weight + e.weight ∧ q.moment = p.moment + e.weight * (2 * at_.row - 1) ∧
          q.moment ≤ q.figures.amax * q.figures.axleX ∧
          (q.weight * q.figures.axleX ≤ q.figures.kmax * q.figures.axleX + q.moment) ∧
          q.openRow = max p.openRow at_.row ∧ q.reserved = p.reserved + (if e.confirmed then 0 else 1) ∧
          (p.rows.length = p.figures.rows → 1 ≤ p.openRow →
            q.stack at_.row at_.side = p.stack at_.row at_.side ++ [e] ∧
            ∀ (r : Nat) (x : Side), 1 ≤ r → (r ≠ at_.row ∨ x ≠ at_.side) → q.stack r x = p.stack r x) ∧
          q.weightA = p.weightA + (if at_.side = .a then e.weight else 0) ∧
          q.weightB = p.weightB + (if at_.side = .b then e.weight else 0) ∧
          q.lost = (if at_.row = p.openRow then p.lost else ((q.rows.take p.openRow).map PlanRow.empties).sum) ∧
          { q with
            openRow := p.openRow, rows := p.rows, weight := p.weight, moment := p.moment, weightA := p.weightA,
            weightB := p.weightB, reserved := p.reserved, lost := p.lost } = p ∧
          ∃ before c after, p.candidates e = before ++ c :: after ∧ c.row = at_.row ∧ c.side = at_.side ∧
            p.failure c e = none ∧ ∀ x ∈ before, p.failure x e ≠ none) ∧
        (p.candidates e ≠ [] → (∀ c ∈ p.candidates e, p.failure c e ≠ none) →
          ∃ c reason, (p.candidates e).head? = some c ∧ p.failure c e = some reason ∧ p.place e = .refused reason))) ∧
    (
      let start := fun (r : Nat) =>
        let a := (match p.figures.pattern with
          | .fixed => true
          | .alternate => decide (r % 2 = 1)
          | .paired => decide ((r + 1) / 2 % 2 = 1))
        if (a == !(p.figures.flip && p.parity == 1)) = true then Side.a else Side.b
      let height := fun (c : Candidate) => ((p.stack c.row c.side).map Entry.height).sum
      let stands := fun (st : List Entry) =>
        st ≠ [] ∧ st.length < p.figures.tiers ∧ (∀ below top, st = below ++ [top] → top.confirmed = true) ∧
        (st.map Entry.height).sum + e.height ≤ p.figures.hmax ∧ e.hazard = none ∧ (∀ x ∈ st, x.hazard = none) ∧
        (∀ below x above, st = below ++ x :: above → (above.map Entry.weight).sum + e.weight ≤ x.topLoad)
      let group := fun (c : Candidate) => if c.next = true then 2 else if p.stack c.row c.side = [] then 1 else 0
      (∀ c : Candidate, c ∈ p.candidates e ↔ p.openRow ≤ p.figures.rows ∧
        (c.next = false ∧ c.row = p.openRow ∧ (p.stack c.row c.side = [] ∨ stands (p.stack c.row c.side)) ∨
          c.next = true ∧ c.row = p.openRow + 1 ∧ c.row ≤ p.figures.rows ∧ c.side = start c.row)) ∧
      (p.candidates e).Pairwise (fun c x => c ≠ x ∧ (group c < group x ∨ group c = group x ∧
        (height c < height x ∨ height c = height x ∧ c.side = start c.row))) ∧
      (∀ c : Candidate,
        let weight := p.weight + e.weight
        let moment := p.moment + e.weight * (2 * c.row - 1)
        let sideA := p.weightA + (if c.side = .a then e.weight else 0)
        let sideB := p.weightB + (if c.side = .b then e.weight else 0)
        let other := p.stack c.row (if c.side = .a then .b else .a)
        let hazard := ∃ g, e.hazard = some g ∧ ∃ x ∈ (p.row c.row).a ++ (p.row c.row).b, ∃ h, x.hazard = some h ∧ h ≠ g
        let axle := p.figures.amax * p.figures.axleX < moment ∨
          p.figures.kmax * p.figures.axleX + moment < weight * p.figures.axleX
        let lateral := other ≠ [] ∧ ∃ dlat, p.figures.dlat = some dlat ∧ (dlat < sideA - sideB ∨ dlat < sideB - sideA)
        (hazard → p.failure c e = some .hazard) ∧ (¬ hazard → axle → p.failure c e = some .axle) ∧
        (¬ hazard → ¬ axle → lateral → p.failure c e = some .lateral) ∧
        (¬ hazard → ¬ axle → ¬ lateral → p.failure c e = none)))

/-! ### Move scheduling (chapter 7) -/

/-- R122: SetDispatch brings each value into its range, a run limit to 1, 2, 4 or 8, and answers DONE_CLAMPED with the settings
as stored when any was changed. It changes the settings alone: no remaining count, timer, deadline or counter. -/
def Obligations.SetDispatchClampsEachSetting : Prop :=
  ∀ (tag : Byte) (d : DispatchSettings) (s : State), s.takes (.setDispatch tag d) = true →
    let limit := fun n => if n ≤ 1 then 1 else if n ≤ 2 then 2 else if n ≤ 4 then 4 else 8
    let c : DispatchSettings :=
      { loadSlots := min 8 d.loadSlots, urgencyLead := max 300 (min 7200 d.urgencyLead),
        offerTime := max 10 (min 120 d.offerTime), unloadLimit := limit d.unloadLimit, loadLimit := limit d.loadLimit,
        relocLimit := limit d.relocLimit, laneBase := max 30 (min 900 d.laneBase), doorBase := max 30 (min 900 d.doorBase),
        directBase := max 30 (min 900 d.directBase), relocBase := max 30 (min 900 d.relocBase),
        changeover := min 600 d.changeover }
    (s.surveying = true → exec (.setDispatch tag d) s = .next (s.replied 0x85 tag .notNow [])) ∧
    (s.surveying = false → exec (.setDispatch tag d) s = .next
      (State.replied { s with sched := { s.sched with settings := c } } 0x85 tag (if c = d then .done else .doneClamped)
        (if c = d then [] else emit (dispatchFields c))))

/-- Every message but Logon from a truck that is OFF is ignored: its frame has ended at the receiver, which may put a rate set into
use, and else no state changes and no answer is sent. A message that needs a reply while every slot is taken is discarded before it
reaches the scheduler, even from a truck that is OFF (log entry 6): the truck's overrun flag is set and its subject marked, and
nothing else changes; an idle transmitter with nothing else to send begins that truck's report. -/
def Obligations.MessagesThatAreNotHeard : Prop :=
  (
    ∀ (c : Instr) (n : Nat) (s : State), Instr.sender c = some n → c ≠ .logon n → (s.truck n).state = .off →
      (Instr.needsReply c = true → s.replySlotFree = true) →
      (s.hears n = false → exec c s = .next s) ∧
      (s.hears n = true → exec c s = .next { s with floor := { s.floor with
        rx := [], rate := if s.floor.tx = .quiet then s.floor.settings.rate else s.floor.rate } })) ∧
  (
    ∀ (c : Instr) (n : Nat) (s : State), Instr.sender c = some n → Instr.needsReply c = true → s.hears n = true →
      16 ≤ s.floor.replies.length → (∀ p x, c = .drop n p x → x.names = true) →
      ∃ t, exec c s = .next t ∧ t.floor.overrun.get n = true ∧
        (∀ m, m ≠ n → t.floor.overrun.get m = s.floor.overrun.get m) ∧
        { t with floor := s.floor, link := s.link } = s ∧
        { t.floor with overrun := s.floor.overrun } = { s.floor with
          rx := [], rate := if s.floor.tx = .quiet then s.floor.settings.rate else s.floor.rate } ∧
        t.link.receive = s.link.receive ∧
        (∀ o, s.link.sending = some o → t.link = { s.link with
          reports := if .truck n ∈ s.link.reports then s.link.reports else s.link.reports ++ [.truck n],
          sending := some (if o.notice = .overrun n then { o with notice := .none } else o) }) ∧
        (s.link.sending = none → s.link.slot = none → s.link.reports = [] →
          t.link = { s.link with sending := some (t.compose (.truck n)) }))

/-- Logon makes an OFF truck FREE once the part is started and no survey runs, at once offered a run where a pairing follows,
and is answered by the state; before Start and during the survey the truck stays OFF and the answer says so; from any other
truck it is answered by the truck's state, run and task, which stay as they are. -/
def Obligations.LogonAnswersByState : Prop :=
  ∀ (n : Nat) (s : State), s.slotFor n = true → n ∉ s.sched.freeQueue ∨ (s.truck n).state = .free →
    let ack := fun state run task => s.floor.replies ++
      [({ truck := n, msg := .logonAck state run task, onAir := false, opens := false } : Waiting)]
    ((s.truck n).state = .off → s.started = true → s.surveying = false → ∃ t, exec (.logon n) s = .next t ∧
      t.floor.replies = ack (some .free) none none ∧ (t.truck n).freeSince = some s.now ∧ (t.truck n).lastLoc = none ∧
      ((t.truck n).state = .free ∧ n ∈ t.sched.freeQueue ∨ s.working = true ∧ (t.truck n).state = .offered)) ∧
    ((s.truck n).state = .off → s.started = false ∨ s.surveying = true → ∃ t, exec (.logon n) s = .next t ∧
      t.floor.replies = ack none none none ∧ t.trucks = s.trucks) ∧
    (((s.truck n).state = .offered ∨ (s.truck n).state = .onRun ∨ (s.truck n).state = .onBreak) →
      ∃ t, exec (.logon n) s = .next t ∧ t.truck n = s.truck n ∧
        t.floor.replies = ack (some (s.truck n).state) (s.truck n).run (s.truck n).task) ∧
    ((s.truck n).state = .free ∨ (s.truck n).state = .absent → ∃ t, exec (.logon n) s = .next t ∧
      t.floor.replies = ack (some .free) (s.truck n).run (s.truck n).task ∧
      ((t.truck n).state = .free ∨ s.working = true ∧ (t.truck n).state = .offered))

/-- Break and Resume are not answered: Break makes a FREE, OFFERED or ABSENT truck, or one ON_RUN without a task, BREAK, and
marks and closes the run of one with a task; Resume returns a BREAK truck to the queue's tail, and clears the break mark of a
run, which stays closing if it was. Logoff makes a truck OFF with its whole record absent, out of the queue and with nothing
waiting for it in either floor queue; an open task is expired, its reservation released, its pallet MISSING, last known at the truck,
and TASK_EXPIRED recorded (the pallet is shown where the night does not end with the task). Every other reservation, and what every
lane holds, stands. -/
def Obligations.BreakResumeAndLogoff : Prop :=
  (
    ∀ (n : Nat) (s : State), s.hears n = true → n ∉ s.sched.freeQueue ∨ (s.truck n).state = .free →
      (((s.truck n).state = .free ∨ (s.truck n).state = .absent) → ∃ t, exec (.takeBreak n) s = .next t ∧
        (t.truck n).state = .onBreak ∧ (t.truck n).freeSince = none ∧ n ∉ t.sched.freeQueue ∧
        t.floor.replies = s.floor.replies) ∧
      ((s.truck n).state = .offered → ∃ t, exec (.takeBreak n) s = .next t ∧
        t.truck n = { s.truck n with state := .onBreak, run := none, offerEnd := none } ∧
        t.floor.replies = s.floor.replies) ∧
      (∀ run, (s.truck n).state = .onRun → (s.truck n).run = some run → (s.truck n).task = none → ∃ t,
        exec (.takeBreak n) s = .next t ∧ t.truck n = { s.truck n with state := .onBreak, run := none, offerEnd := none } ∧
        t.floor.replies = s.floor.replies) ∧
      (∀ run task, (s.truck n).state = .onRun → (s.truck n).run = some run → (s.truck n).task = some task → ∃ t,
        exec (.takeBreak n) s = .next t ∧
        t.truck n = { s.truck n with run := some { run with breakMark := true, closing := true } } ∧
        t.floor.replies = s.floor.replies) ∧
      ((s.truck n).state = .onBreak → ∃ t, exec (.resume n) s = .next t ∧ (t.truck n).freeSince = some s.now ∧
        ((t.truck n).state = .free ∧ n ∈ t.sched.freeQueue ∨ s.working = true ∧ (t.truck n).state = .offered) ∧
        (s.working = false → t.truck n = { s.truck n with state := .free, freeSince := some s.now } ∧
          t.sched.freeQueue = s.sched.freeQueue ++ [n]) ∧
        t.floor.replies = s.floor.replies) ∧
      (∀ run, (s.truck n).state = .onRun → (s.truck n).run = some run → ∃ t, exec (.resume n) s = .next t ∧
        t.truck n = { s.truck n with run := some { run with breakMark := false } } ∧ t.floor.replies = s.floor.replies)) ∧
  (
    ∀ (n : Nat) (s : State), s.hears n = true → (s.truck n).state ≠ .off →
      ∃ t, exec (.logoff n) s = .next t ∧
        t.truck n = { state := .off, freeSince := none, lastLoc := none, run := none, offerEnd := none, task := none } ∧
        n ∉ t.sched.freeQueue ∧ (∀ w ∈ t.floor.replies ++ t.floor.notices, w.truck ≠ n) ∧
        (∀ task, (s.truck n).task = some task → s.TaskReleased t task) ∧
        (∀ task r, (s.truck n).task = some task → s.pallet? task.pallet = some r → r.place.state = .moving →
          t.recorded .taskExpired (.truck n) = true ∧
          (s.clock.ending = false → t.pallet? task.pallet = some { r with place := .missing (.truck n) })))

/-- Accept: an OFFERED truck is ON_RUN with no offer timer and is answered the run-start DropOk with the remaining count, which
for a LOAD run also carries the head whose claim it now holds, or, when the claim is refused, remaining count 0 with the run
over; one from an ON_RUN truck is answered the same DropOk again, with the present remaining count and the head it holds the claim
of, and changes nothing; a truck that is neither OFFERED nor ON_RUN is answered TooLate. Decline, and RunEnd from an OFFERED truck or one ON_RUN
without a task: the offer or the run is over, the truck is in the queue with free-since now, or already offered its next run,
and there is no answer. RunEnd with an open task closes the run. -/
def Obligations.OffersAreAnswered : Prop :=
  (
    ∀ (n : Nat) (s : State), s.slotFor n = true → n ∉ s.sched.freeQueue ∨ (s.truck n).state = .free →
      let reply := fun msg => s.floor.replies ++ [({ truck := n, msg := msg, onAir := false, opens := false } : Waiting)]
      (∀ run, (s.truck n).state = .offered → (s.truck n).run = some run →
        (run.kind ≠ .load → ∃ t, exec (.accept n) s = .next t ∧
          t.truck n = { s.truck n with state := .onRun, offerEnd := none } ∧
          t.floor.replies = reply (.dropOk true run.remaining none) ∧
          ∀ w ∈ t.floor.notices, w.truck = n → w.isOffer = false) ∧
        (∀ l d p f, run.kind = .load → run.source = .lane l → run.target = some d → l < 96 → (s.door d).bound = some f →
          (s.lane l).fifo = true → (s.lane l).state = .open_ → (s.lane l).holder = some n → (s.lane l).claim = none →
          (s.lane l).contents.head? = some p → (s.lane l).stalled ≠ some f → ∃ t, exec (.accept n) s = .next t ∧
            t.truck n = { s.truck n with state := .onRun, offerEnd := none } ∧
            (t.lane l).claim = some n ∧ (t.lane l).contents = (s.lane l).contents ∧
            t.floor.replies = reply (.dropOk true run.remaining (some p))) ∧
        (∀ l d, run.kind = .load → run.source = .lane l → run.target = some d →
          ((s.lane l).fifo = false ∨ (s.lane l).state ≠ .open_ ∨ (s.lane l).holder ≠ some n ∨ (s.lane l).claim ≠ none ∨
            (s.lane l).contents = [] ∨ (s.lane l).stalled = some ((s.door d).bound.getD 0)) →
          ∃ t, exec (.accept n) s = .next t ∧ t.floor.replies = reply (.dropOk true 0 none) ∧
            ((t.truck n).state = (if run.breakMark then .onBreak else .free) ∧ (t.truck n).run = none ∨
              s.working = true ∧ (t.truck n).state = .offered))) ∧
      (∀ run head, (s.truck n).state = .onRun → (s.truck n).run = some run →
        (run.kind ≠ .load ∧ head = none ∨ ∃ l, run.kind = .load ∧ run.source = .lane l ∧
          head = if (s.lane l).claim = some n then (s.lane l).contents.head? else none) →
        ∃ t, exec (.accept n) s = .next t ∧ t.truck n = s.truck n ∧ t.pallets = s.pallets ∧ t.doors = s.doors ∧
          (∀ l, (t.lane l).contents = (s.lane l).contents ∧ (t.lane l).claim = (s.lane l).claim) ∧
          t.floor.replies = reply (.dropOk true run.remaining head)) ∧
      (((s.truck n).state = .free ∨ (s.truck n).state = .onBreak ∨ (s.truck n).state = .absent) →
        ∃ t, exec (.accept n) s = .next t ∧ t.floor.replies = reply (.tooLate 0 false) ∧ t.pallets = s.pallets)) ∧
  (
    ∀ (n : Nat) (s : State) (run : Run), s.hears n = true → n ∉ s.sched.freeQueue → (s.truck n).run = some run →
      let freed := fun (t : State) =>
        ((t.truck n).state = .free ∧ (t.truck n).run = none ∧ n ∈ t.sched.freeQueue ∨
          s.working = true ∧ (t.truck n).state = .offered) ∧
        (t.truck n).freeSince = some s.now ∧ t.floor.replies = s.floor.replies ∧ t.pallets = s.pallets ∧ t.doors = s.doors
      ((s.truck n).state = .offered → ∃ t, exec (.decline n) s = .next t ∧ freed t) ∧
      ((s.truck n).state = .offered → ∃ t, exec (.runEnd n) s = .next t ∧ freed t) ∧
      ((s.truck n).state = .onRun → (s.truck n).task = none → run.breakMark = false →
        ∃ t, exec (.runEnd n) s = .next t ∧ freed t) ∧
      ((s.truck n).state = .onRun → (s.truck n).task ≠ none → ∃ t, exec (.runEnd n) s = .next t ∧
        t.truck n = { s.truck n with run := some { run with closing := true } } ∧ t.floor.replies = s.floor.replies))

/-- A Take from a truck that is not ON_RUN is answered NOT_ON_RUN, and one from a truck that holds a task TASK_OPEN; nothing is
taken. A Take, on an UNLOAD run, of a pallet EXPECTED on the door's trailer that goes to a lane: the place is reserved, the
record is MOVING on the truck, the trailer's taken count and the run's remaining count follow, the task is created ISSUING, and
the answer is its DropInstruct; the lane is a bay for a pallet with no destination or held, and else, where no trailer is
loading for its depot, the lane of staging selection, or, with none, the bay of bay selection, with LANE_FULL. A Take of a
pallet without a record, whose label is carried, makes its record, MOVING, and goes on in the same way; one with a label out of
range or without a destination, or held, goes to a bay, with SATURATED_LABEL and UNROUTED (in that order, which is the model's:
DESIGN CHOICE, log entry 25). In TRANSFER and CLOSE a pallet goes directly to the first trailer loading for its depot, in order,
whose plan places it, and to a lane when each plan refuses it; a plan that refuses it NO_ROOM or OVER_WEIGHT closes its trailer.
A pallet EXPECTED on another trailer is taken with MISMANIFEST raised, going from that trailer's manifest to this one's (what an
expected count of 0 falls to there is a free value: log entry 18). A Take is answered DUPLICATE_LABEL, with the exception, for a
pallet whose record is not EXPECTED; UNKNOWN for one without a record whose label is not carried; TABLE_FULL, with the
exception, for a new one when the table is full; and NO_PLACE, with NO_PLACE raised, when no lane or bay can take it, the record
of a new pallet standing then as EXPECTED. After a refusal the truck and its run are as before, and no lane's contents,
reservations, claim or state changes; where no pairing is possible (which is what every step leaves) no truck and no lane
changes at all. -/
def Obligations.TakesOnUnloadRuns : Prop :=
  (
    ∀ (n p : Nat) (label : Option Label) (s : State), s.slotFor n = true →
      let reply := fun reason =>
        s.floor.replies ++ [({ truck := n, msg := .refused p reason, onAir := false, opens := false } : Waiting)]
      let same := fun (t : State) =>
        t.pallets = s.pallets ∧ t.depots = s.depots ∧ t.doors = s.doors ∧ t.trailers = s.trailers ∧
        t.exceptions = s.exceptions ∧
        ∀ l, (t.lane l).contents = (s.lane l).contents ∧ (t.lane l).reserved = (s.lane l).reserved
      (((s.truck n).state = .free ∨ (s.truck n).state = .offered ∨ (s.truck n).state = .onBreak ∨
          (s.truck n).state = .absent) →
        ∃ t, exec (.take n p label) s = .next t ∧ t.floor.replies = reply .notOnRun ∧ same t) ∧
      (∀ run task, (s.truck n).state = .onRun → (s.truck n).run = some run → (s.truck n).task = some task →
        ∃ t, exec (.take n p label) s = .next t ∧ t.floor.replies = reply .taskOpen ∧ same t ∧ (t.truck n).task = some task)) ∧
  (
    ∀ (n p d f l : Nat) (label : Option Label) (s : State) (run : Run) (tr : TrailerRec) (r : PalletRec),
      s.slotFor n = true → n ∉ s.sched.freeQueue → (s.truck n).state = .onRun → (s.truck n).run = some run →
      (s.truck n).task = none → run.kind = .unload → run.source = .door d → (s.door d).state = .bound →
      (s.door d).bound = some f → s.trailer? f = some tr → tr.taken < 65535 → s.pallet? p = some r → r.place = .expected f →
      ((r.dest = 0 ∨ r.hold = true) ∧ s.bayWithRoom = some l ∨
        r.dest ≠ 0 ∧ r.hold = false ∧ (s.loadPhase = false ∨ s.directDoors r.dest none = []) ∧
          s.stagingLane r.dest r.service = some l) → l < 96 →
      let task : Task :=
        { pallet := p, kind := .unload, source := .door d, target := .lane l, open_ := false, deadline := none,
          first := !run.begun }
      ∃ t, exec (.take n p label) s = .next t ∧
        t.truck n = { s.truck n with
          task := some task, run := some { run with remaining := run.remaining - 1, begun := true } } ∧
        t.pallet? p = some { r with place := .moving n } ∧ (∀ q, q ≠ p → t.pallet? q = s.pallet? q) ∧
        (t.lane l).reserved = (s.lane l).reserved + 1 ∧ (∀ m, (t.lane m).contents = (s.lane m).contents) ∧
        t.trailer? f = some { tr with taken := tr.taken + 1 } ∧ t.exceptions = s.exceptions ∧ t.doors = s.doors ∧
        t.clock = s.clock ∧
        t.floor.replies = s.floor.replies ++
          [{ truck := n, msg := .dropInstruct p (.lane l), onAir := false, opens := true }]) ∧
  (
    ∀ (n p d f m dest : Nat) (l : Label) (s : State) (run : Run) (tr : TrailerRec),
      s.slotFor n = true → n ∉ s.sched.freeQueue → (s.truck n).state = .onRun → (s.truck n).run = some run →
      (s.truck n).task = none → run.kind = .unload → run.source = .door d → (s.door d).state = .bound →
      (s.door d).bound = some f → s.trailer? f = some tr → tr.taken < 65535 → s.pallet? p = none → p ≠ 0 →
      s.pallets.length < 4096 → l.hazard ≤ 7 → (l.cls = 1 ∨ l.cls = 2) → l.hold = false → 1 ≤ l.weight → l.weight ≤ 1500 →
      3 ≤ l.height → l.height ≤ 26 → l.topLoad ≤ 2000 → s.resolve l.route = .to dest →
      (s.loadPhase = false ∨ s.directDoors dest none = []) →
      s.stagingLane dest (if l.cls = 2 then .premium else .standard) = some m → m < 96 →
      let task : Task :=
        { pallet := p, kind := .unload, source := .door d, target := .lane m, open_ := false, deadline := none,
          first := !run.begun }
      ∃ t, exec (.take n p (some l)) s = .next t ∧
        t.truck n = { s.truck n with
          task := some task, run := some { run with remaining := run.remaining - 1, begun := true } } ∧
        t.pallet? p = some
          { id := p, origin := tr.origin, dest := dest, route := l.route, weight := l.weight, height := l.height,
            topLoad := l.topLoad, hazard := if l.hazard = 0 then none else some l.hazard,
            service := if l.cls = 2 then .premium else .standard, hold := false, saturated := false, roll := 0,
            inbound := some tr.fleet, place := .moving n } ∧
        (∀ q, q ≠ p → t.pallet? q = s.pallet? q) ∧ t.pallets.length = s.pallets.length + 1 ∧
        t.depot dest = { s.depot dest with moving := (s.depot dest).moving + 1 } ∧
        (t.lane m).reserved = (s.lane m).reserved + 1 ∧ (∀ k, (t.lane k).contents = (s.lane k).contents) ∧
        t.trailer? f = some { tr with taken := tr.taken + 1 } ∧ t.exceptions = s.exceptions ∧ t.doors = s.doors ∧
        t.floor.replies = s.floor.replies ++
          [{ truck := n, msg := .dropInstruct p (.lane m), onAir := false, opens := true }]) ∧
  (
    ∀ (n p d f : Nat) (label : Option Label) (s : State) (run : Run) (tr : TrailerRec),
      s.slotFor n = true → n ∉ s.sched.freeQueue → (s.truck n).state = .onRun → (s.truck n).run = some run →
      (s.truck n).task = none → run.kind = .unload → run.source = .door d → (s.door d).state = .bound →
      (s.door d).bound = some f → s.trailer? f = some tr →
      let answered := fun (reason : Reason) (t : State) =>
        t.truck n = s.truck n ∧ t.doors = s.doors ∧
        (∀ l, (t.lane l).contents = (s.lane l).contents ∧ (t.lane l).reserved = (s.lane l).reserved ∧
          (t.lane l).claim = (s.lane l).claim ∧ (t.lane l).state = (s.lane l).state) ∧
        t.floor.replies = s.floor.replies ++
          [({ truck := n, msg := .refused p reason, onAir := false, opens := false } : Waiting)]
      let refused := fun (reason : Reason) (t : State) =>
        answered reason t ∧ t.pallets = s.pallets ∧ t.depots = s.depots ∧ t.trailers = s.trailers ∧
        (s.pairOne = none → t.trucks = s.trucks ∧ t.lanes = s.lanes)
      let job : Target → Task := fun x =>
        { pallet := p, kind := .unload, source := .door d, target := x, open_ := false, deadline := none, first := !run.begun }
      (∀ r, s.pallet? p = some r → r.place.state ≠ .expected → ∃ t, exec (.take n p label) s = .next t ∧
        refused .duplicateLabel t ∧
        t.exceptions.entries = s.exceptions.raised .duplicateLabel (.pallet p) s.now s.clock.valid r.place.state.code) ∧
      (s.pallet? p = none → label = none → ∃ t, exec (.take n p label) s = .next t ∧
        refused .unknown t ∧ t.exceptions = s.exceptions) ∧
      (∀ l, s.pallet? p = none → label = some l → p ≠ 0 → l.hazard ≤ 7 → (l.cls = 1 ∨ l.cls = 2) →
        4096 ≤ s.pallets.length → ∃ t, exec (.take n p label) s = .next t ∧ refused .tableFull t ∧
        t.exceptions.entries = s.exceptions.raised .tableFull .none s.now s.clock.valid p) ∧
      (∀ r g, s.pallet? p = some r → r.place = .expected g →
        (r.dest = 0 ∨ r.hold = true ∨
          (s.loadPhase = false ∨ s.directDoors r.dest none = []) ∧ s.stagingLane r.dest r.service = none) →
        s.bayWithRoom = none → ∃ t, exec (.take n p label) s = .next t ∧ refused .noPlace t ∧
        t.exceptions.entries = s.exceptions.raised .noPlace .none s.now s.clock.valid p) ∧
      (∀ l, s.pallet? p = none → label = some l → p ≠ 0 → l.hazard ≤ 7 → (l.cls = 1 ∨ l.cls = 2) → l.hold = true →
        s.pallets.length < 4096 → tr.expected < 65535 → s.bayWithRoom = none → ∃ t, exec (.take n p label) s = .next t ∧
        answered .noPlace t ∧ (∃ r, t.pallet? p = some r ∧ r.place = .expected f ∧ r.inbound = some f) ∧
        (∀ q, q ≠ p → t.pallet? q = s.pallet? q) ∧ t.trailer? f = some { tr with expected := tr.expected + 1 }) ∧
      (∀ r g from_ m, s.pallet? p = some r → r.place = .expected g → g ≠ f → s.trailer? g = some from_ →
        tr.state ≠ .loading →
        (r.dest = 0 ∨ r.hold = true) → s.bayWithRoom = some m → tr.taken < 65535 → tr.expected < 65535 →
        ∃ t, exec (.take n p label) s = .next t ∧ (t.truck n).task = some (job (.lane m)) ∧
          t.pallet? p = some { r with place := .moving n, inbound := some tr.fleet, origin := tr.origin } ∧
          t.trailer? f = some { tr with taken := tr.taken + 1, expected := tr.expected + 1 } ∧
          t.trailer? g = some { from_ with expected :=
            if from_.expected = 0 then Config.countBelow.toNat else from_.expected - 1 } ∧
          t.exceptions.entries = s.exceptions.raised .mismanifest (.pallet p) s.now s.clock.valid g) ∧
      let passes := fun (r : PalletRec) (e : Nat) => ∃ plan reason, s.livePlan e = some plan ∧
        plan.place (r.entry false) = .refused reason ∧ reason ≠ .noRoom ∧ reason ≠ .overWeight
      let taken := fun (x : Target) (t : State) =>
        (t.truck n).task = some (job x) ∧
        t.floor.replies = s.floor.replies ++
          [({ truck := n, msg := .dropInstruct p x, onAir := false, opens := true } : Waiting)]
      (∀ r, s.pallet? p = some r → r.place = .expected f → r.dest ≠ 0 → r.hold = false → tr.state ≠ .loading →
        tr.taken < 65535 →
        (∀ before door after plan q at_, s.loadPhase = true → door < 48 → s.directDoors r.dest none = before ++ door :: after →
          (∀ e ∈ before, passes r e) → s.livePlan door = some plan → plan.place (r.entry false) = .placed q at_ →
          ∃ t, exec (.take n p label) s = .next t ∧ taken (.door door at_.row at_.side at_.tier) t ∧
            t.livePlan door = some q ∧ t.pallet? p = some { r with place := .moving n } ∧ t.exceptions = s.exceptions) ∧
        (∀ m, s.loadPhase = true → (∀ e ∈ s.directDoors r.dest none, passes r e) → s.stagingLane r.dest r.service = some m →
          m < 96 → ∃ t, exec (.take n p label) s = .next t ∧ taken (.lane m) t ∧
            (t.lane m).reserved = (s.lane m).reserved + 1 ∧ t.pallet? p = some { r with place := .moving n } ∧
            t.doors = s.doors ∧ t.exceptions = s.exceptions) ∧
        (∀ door plan reason g u m, s.loadPhase = true → s.directDoors r.dest none = [door] → door < 48 →
          s.livePlan door = some plan → plan.place (r.entry false) = .refused reason →
          (reason = .noRoom ∨ reason = .overWeight) → (s.door door).bound = some g → s.trailer? g = some u →
          u.state = .loading → u.door = some door → (∀ c, (s.group c).stage ≠ .pending) → s.LanesHeld →
          s.stagingLane r.dest r.service = some m → m < 96 →
          ∃ t, exec (.take n p label) s = .next t ∧ taken (.lane m) t ∧
            (∃ v, t.trailer? g = some v ∧ (v.state = .closing ∨ v.state = .sealed)) ∧
            t.pallet? p = some { r with place := .moving n }) ∧
        (∀ b head, (s.loadPhase = false ∨ s.directDoors r.dest none = []) → s.stagingLane r.dest r.service = none →
          (s.depot r.dest).group.head? = some head → s.bayWithRoom = some b →
          ∃ t, exec (.take n p label) s = .next t ∧ taken (.lane b) t ∧
            (t.lane b).reserved = (s.lane b).reserved + 1 ∧ t.pallet? p = some { r with place := .moving n } ∧
            t.exceptions.entries = s.exceptions.raised .laneFull (.lane head) s.now s.clock.valid p)) ∧
      (∀ l b, s.pallet? p = none → label = some l → p ≠ 0 → l.hazard ≤ 7 → (l.cls = 1 ∨ l.cls = 2) →
        s.pallets.length < 4096 → tr.taken < 65535 → s.bayWithRoom = some b →
        let k := (if 1 ≤ l.weight ∧ l.weight ≤ 1500 then 0 else 1) + (if 3 ≤ l.height ∧ l.height ≤ 26 then 0 else 2) +
          (if l.topLoad ≤ 2000 then 0 else 4)
        let v := if k = 0 then s else s.raise .saturatedLabel (.pallet p) k
        let w := fun (cause : Nat) => v.raise .unrouted (.pallet p) (cause * 2 ^ 24 + l.route.toNat)
        l.hold = true ∨ k ≠ 0 ∨ (s.resolve l.route).dest = 0 →
        ∃ t, exec (.take n p label) s = .next t ∧ taken (.lane b) t ∧ (t.lane b).reserved = (s.lane b).reserved + 1 ∧
          t.pallet? p = some
            { id := p, origin := tr.origin, dest := (s.resolve l.route).dest, route := l.route,
              weight := max 1 (min 1500 l.weight), height := max 3 (min 26 l.height), topLoad := min 2000 l.topLoad,
              hazard := if l.hazard = 0 then none else some l.hazard,
              service := if l.cls = 2 then .premium else .standard, hold := l.hold || decide (k ≠ 0),
              saturated := decide (k ≠ 0), roll := 0, inbound := some tr.fleet, place := .moving n } ∧
          t.trailer? f = some { tr with taken := tr.taken + 1 } ∧
          t.exceptions = (match s.resolve l.route with
            | .to _ => v | .check => w 1 | .noMatch => w 2 | .disabled => w 3).exceptions))

/-- A Take, on a LOAD run, of the head the truck holds the claim of, which the planner places: the head leaves its lane and the
claim ends, the plan holds the reserved entry, the record is MOVING on the truck, and the task targets the entry's row, side and
tier; any pallet but the claimed head is answered WRONG_PALLET, and so is every pallet when the lane is not OPEN, when the truck
has not the claim, and when there is no record (log entry 23). A claimed head that the planner refuses is answered with the
planner's reason, and the run ends, the truck being FREE in the queue or, with its break mark, BREAK: the trailer closes for
NO_ROOM and OVER_WEIGHT, and the lane is stalled for it for any other reason; the head stays, no longer claimed, and the lane
has no run holder but the truck of a new offer. A Take, on a RELOCATE run, of a released pallet of the bay: the pallet leaves
the bay for the lane of staging selection; a pallet that is not in the bay, or is not STAGED in it, is answered WRONG_PALLET,
and so is every pallet of a lane that is not OPEN or is a bay no more, and a pallet without a record (log entry 23); one that no
lane or bay can take is answered NO_PLACE, and nothing is taken. -/
def Obligations.TakesFromLanes : Prop :=
  (
    ∀ (n p d l : Nat) (label : Option Label) (s : State) (run : Run) (r : PalletRec),
      s.slotFor n = true → n ∉ s.sched.freeQueue → (s.truck n).state = .onRun → (s.truck n).run = some run →
      (s.truck n).task = none → run.kind = .load → run.source = .lane l → run.target = some d → s.pallet? p = some r →
      l < 96 → d < 48 →
      (∀ (plan q : Plan) (at_ : Place), (s.lane l).state = .open_ → (s.lane l).claim = some n →
        (s.lane l).contents.head? = some p → s.livePlan d = some plan → plan.place (r.entry false) = .placed q at_ →
        let task : Task :=
          { pallet := p, kind := .load, source := .lane l, target := .door d at_.row at_.side at_.tier, open_ := false,
            deadline := none, first := !run.begun }
        ∃ t, exec (.take n p label) s = .next t ∧
          t.truck n = { s.truck n with
            task := some task, run := some { run with remaining := run.remaining - 1, begun := true } } ∧
          t.pallet? p = some { r with place := .moving n } ∧ t.livePlan d = some q ∧
          (t.lane l).contents = (s.lane l).contents.filter (· != p) ∧ (t.lane l).claim = none ∧
          (t.lane l).tasksOut = (s.lane l).tasksOut + 1 ∧ t.trailers = s.trailers ∧ t.exceptions = s.exceptions ∧
          t.floor.replies = s.floor.replies ++
            [{ truck := n, msg := .dropInstruct p (.door d at_.row at_.side at_.tier), onAir := false, opens := true }]) ∧
      ((s.lane l).state ≠ .open_ ∨ (s.lane l).claim ≠ some n ∨ (s.lane l).contents.head? ≠ some p →
        ∃ t, exec (.take n p label) s = .next t ∧ t.truck n = s.truck n ∧
        t.pallets = s.pallets ∧ t.doors = s.doors ∧
        (∀ m, (t.lane m).contents = (s.lane m).contents ∧ (t.lane m).claim = (s.lane m).claim) ∧ t.exceptions = s.exceptions ∧
        t.floor.replies = s.floor.replies ++
          [{ truck := n, msg := .refused p .wrongPallet, onAir := false, opens := false }])) ∧
  (
    ∀ (n p b l : Nat) (label : Option Label) (s : State) (run : Run) (r : PalletRec),
      s.slotFor n = true → n ∉ s.sched.freeQueue → (s.truck n).state = .onRun → (s.truck n).run = some run →
      (s.truck n).task = none → run.kind = .reloc → run.source = .lane b → b < 96 → l < 96 → b ≠ l →
      (s.lane b).binding = .hold → (s.lane b).state = .open_ → p ∈ (s.lane b).contents → s.pallet? p = some r →
      r.place = .staged b → r.dest ≠ 0 → r.hold = false → (s.loadPhase = false ∨ s.directDoors r.dest none = []) → s.stagingLane r.dest r.service = some l →
      let task : Task :=
        { pallet := p, kind := .reloc, source := .lane b, target := .lane l, open_ := false, deadline := none,
          first := !run.begun }
      ∃ t, exec (.take n p label) s = .next t ∧
        t.truck n = { s.truck n with
          task := some task, run := some { run with remaining := run.remaining - 1, begun := true } } ∧
        t.pallet? p = some { r with place := .moving n } ∧ (∀ q, q ≠ p → t.pallet? q = s.pallet? q) ∧
        (t.lane b).contents = (s.lane b).contents.filter (· != p) ∧ (t.lane b).tasksOut = (s.lane b).tasksOut + 1 ∧
        (t.lane l).reserved = (s.lane l).reserved + 1 ∧ (t.lane l).contents = (s.lane l).contents ∧
        t.trailers = s.trailers ∧ t.doors = s.doors ∧ t.exceptions = s.exceptions ∧
        t.floor.replies = s.floor.replies ++
          [{ truck := n, msg := .dropInstruct p (.lane l), onAir := false, opens := true }]) ∧
  (
    ∀ (n p d l f : Nat) (label : Option Label) (s : State) (run : Run) (r : PalletRec) (tr : TrailerRec) (plan : Plan)
      (reason : Reason), s.slotFor n = true → n ∉ s.sched.freeQueue → (s.truck n).state = .onRun →
      (s.truck n).run = some run → (s.truck n).task = none → run.kind = .load → run.source = .lane l →
      run.target = some d → s.pallet? p = some r → l < 96 → d < 48 → (s.door d).bound = some f →
      s.trailer? f = some tr → tr.state = .loading → tr.door = some d →
      (s.lane l).state = .open_ → (s.lane l).claim = some n → (s.lane l).holder = some n →
      (s.lane l).contents.head? = some p → s.livePlan d = some plan → plan.place (r.entry false) = .refused reason →
      ∃ t, exec (.take n p label) s = .next t ∧ (t.truck n).run = none ∧ (t.truck n).task = none ∧
        (t.truck n).state = (if run.breakMark = true then .onBreak else .free) ∧
        (run.breakMark = false → (t.truck n).freeSince = some s.now ∧ n ∈ t.sched.freeQueue) ∧ t.pallets = s.pallets ∧
        (t.lane l).contents = (s.lane l).contents ∧ (t.lane l).claim = none ∧
        ((t.lane l).holder = none ∨ s.working = true ∧ ∃ m, (t.lane l).holder = some m ∧
          (m < 32 → (t.truck m).state = .offered)) ∧
        (reason = .noRoom ∨ reason = .overWeight → (t.lane l).stalled = (s.lane l).stalled ∧
          ∃ u, t.trailer? f = some u ∧ (u.state = .closing ∨ u.state = .sealed)) ∧
        (reason ≠ .noRoom → reason ≠ .overWeight → (t.lane l).stalled = some f ∧ t.trailers = s.trailers) ∧
        t.floor.replies = s.floor.replies ++
          [{ truck := n, msg := .refused p reason, onAir := false, opens := false }]) ∧
  (
    ∀ (n p b : Nat) (label : Option Label) (s : State) (run : Run),
      s.slotFor n = true → n ∉ s.sched.freeQueue → (s.truck n).state = .onRun → (s.truck n).run = some run →
      (s.truck n).task = none → run.kind = .reloc → run.source = .lane b → b < 96 →
      let refused := fun (reason : Reason) (t : State) =>
        t.truck n = s.truck n ∧ t.pallets = s.pallets ∧ t.doors = s.doors ∧ t.trailers = s.trailers ∧
        (∀ l, (t.lane l).contents = (s.lane l).contents ∧ (t.lane l).reserved = (s.lane l).reserved ∧
          (t.lane l).claim = (s.lane l).claim ∧ (t.lane l).tasksOut = (s.lane l).tasksOut) ∧
        (s.pairOne = none → t.trucks = s.trucks ∧ t.lanes = s.lanes) ∧
        t.floor.replies = s.floor.replies ++
          [({ truck := n, msg := .refused p reason, onAir := false, opens := false } : Waiting)]
      ((s.lane b).binding ≠ .hold ∨ (s.lane b).state ≠ .open_ ∨ p ∉ (s.lane b).contents ∨ s.pallet? p = none ∨
          (∃ r, s.pallet? p = some r ∧ r.place ≠ .staged b) →
        ∃ t, exec (.take n p label) s = .next t ∧ refused .wrongPallet t ∧ t.exceptions = s.exceptions) ∧
      (∀ r, (s.lane b).binding = .hold → (s.lane b).state = .open_ → p ∈ (s.lane b).contents → s.pallet? p = some r →
        r.place = .staged b →
        (r.dest = 0 ∨ r.hold = true ∨
          (s.loadPhase = false ∨ s.directDoors r.dest none = []) ∧ s.stagingLane r.dest r.service = none) →
        s.bayWithRoom = none →
        ∃ t, exec (.take n p label) s = .next t ∧ refused .noPlace t ∧
          t.exceptions.entries = s.exceptions.raised .noPlace .none s.now s.clock.valid p)) ∧
  (
    ∀ (n p l d : Nat) (label : Option Label) (s : State) (run : Run),
      s.slotFor n = true → n ∉ s.sched.freeQueue → (s.truck n).state = .onRun → (s.truck n).run = some run →
      (s.truck n).task = none → run.kind = .load → run.source = .lane l → run.target = some d → s.pallet? p = none →
      ∃ t, exec (.take n p label) s = .next t ∧ t.truck n = s.truck n ∧ t.pallets = s.pallets ∧ t.doors = s.doors ∧
        (∀ m, (t.lane m).contents = (s.lane m).contents ∧ (t.lane m).claim = (s.lane m).claim) ∧ t.exceptions = s.exceptions ∧
        t.floor.replies = s.floor.replies ++
          [{ truck := n, msg := .refused p .wrongPallet, onAir := false, opens := false }])

/-- A Drop of the truck's own task at its lane target confirms the reservation, makes the record STAGED in a depot lane and HELD
in a bay, or STAGED in a bay after a RELOCATE run, frees the task, and is answered DropOk with the remaining count, 0 when the run
has ended; at any other location it is answered WrongDrop and nothing changes. A Drop at its door target makes the record LOADED
at the target's row, side and tier, confirms its plan entry, which is all that changes of what the plan holds, raises the trailer's
loaded count and the depot's loaded-tonight statistic. Shown where the night does not end with the task. The run goes on, with its remaining count in the DropOk, unless it is
closing or its count is 0, and, on a LOAD run, only while its trailer is LOADING for a depot whose group has the lane and the
claim of a new head is granted, which the DropOk names, and on a RELOCATE run only while the bay's demand stands. Any other Drop
is answered UNKNOWN for a pallet without a record and TooLate else; one of a pallet MISSING, last known at the truck, is a late
recovery: where the lane of a location takes it, or the plan of a LOADING trailer places it, the record is there again, and
LATE_RECOVERY is raised whether or not it is; a recovery that the plan refuses closes the trailer for NO_ROOM and OVER_WEIGHT. Such
a Drop leaves the truck's run and task as they are, but for an ABSENT truck, which is FREE at the queue's tail, and for a truck of
the queue, which may be offered a run in the same step. -/
def Obligations.DropsCompleteTasks : Prop :=
  (
    ∀ (n p l : Nat) (s : State) (task : Task) (r : PalletRec), s.slotFor n = true → n ∉ s.sched.freeQueue →
      (s.truck n).state = .onRun → (s.truck n).task = some task → task.pallet = p → task.target = .lane l → l < 96 →
      s.pallet? p = some r → r.place = .moving n → s.clock.ending = false →
      (∃ t remaining, exec (.drop n p (.lane l)) s = .next t ∧ (t.truck n).task = none ∧
        (t.truck n).lastLoc = some (.lane l) ∧
        t.pallet? p = some { r with
          place := if (s.lane l).fifo = true ∨ task.kind = .reloc then .staged l else .held l } ∧
        (t.lane l).reserved = (s.lane l).reserved - 1 ∧
        (∀ q, q ∈ (t.lane l).contents ↔ q = p ∨ q ∈ (s.lane l).contents) ∧
        ((s.lane l).fifo = true → (t.lane l).contents = (s.lane l).contents ++ [p]) ∧
        ((s.lane l).fifo = true ∨ task.kind = .reloc →
          t.doors = s.doors ∧ t.trailers = s.trailers ∧ t.exceptions = s.exceptions) ∧ t.clock = s.clock ∧
        (∃ head, t.floor.replies = (s.floor.replies.map (fun w => if w.truck = n then { w with opens := false } else w)) ++
          [{ truck := n, msg := .dropOk false remaining head, onAir := false, opens := false }]) ∧
        (∀ run, (s.truck n).run = some run → run.kind = .unload →
          remaining = (if run.closing = true then 0 else run.remaining) ∧
          (run.closing = false → run.remaining ≠ 0 → (t.truck n).state = .onRun ∧ (t.truck n).run = some run)) ∧
        (∀ run b, (s.truck n).run = some run → run.kind = .reloc → run.source = .lane b →
          let goes := run.closing = false ∧ run.remaining ≠ 0 ∧ (s.completeTask n task).relocates b (some n) = true
          (goes → remaining = run.remaining ∧ (t.truck n).run = some run ∧ (t.truck n).state = .onRun) ∧
          (¬ goes → remaining = 0 ∧ (t.truck n).run = none)) ∧
        (∀ run, (s.truck n).run = some run → run.kind ≠ .load → t.floor.replies =
          (s.floor.replies.map (fun w => if w.truck = n then { w with opens := false } else w)) ++
            [{ truck := n, msg := .dropOk false remaining none, onAir := false, opens := false }])) ∧
      (∀ x : Location, x.names = true → x ≠ .lane l → ∃ t, exec (.drop n p x) s = .next t ∧ t.truck n = s.truck n ∧
        t.pallets = s.pallets ∧ t.doors = s.doors ∧ (∀ m, (t.lane m).contents = (s.lane m).contents) ∧
        t.floor.replies = s.floor.replies ++
          [{ truck := n, msg := .wrongDrop p (.lane l), onAir := false, opens := false }])) ∧
  (
    ∀ (n p d f row tier : Nat) (side : Side) (s : State) (task : Task) (r : PalletRec) (tr : TrailerRec) (plan : Plan),
      s.slotFor n = true → n ∉ s.sched.freeQueue → (s.truck n).state = .onRun → (s.truck n).task = some task →
      task.pallet = p → task.target = .door d row side tier → d < 48 → (s.door d).bound = some f →
      s.trailer? f = some tr → tr.loaded < 65535 → s.livePlan d = some plan → s.pallet? p = some r → r.place = .moving n →
      1 ≤ r.dest → r.dest ≤ 127 → s.clock.ending = false →
      ∃ t remaining head, exec (.drop n p (.door d)) s = .next t ∧ (t.truck n).task = none ∧
        (t.truck n).lastLoc = some (.door d) ∧
        t.pallet? p = some { r with place := .loaded f row side.code tier } ∧ (∀ q, q ≠ p → t.pallet? q = s.pallet? q) ∧
        t.depot r.dest = { s.depot r.dest with
          moving := (s.depot r.dest).moving - 1, loaded := (s.depot r.dest).loaded + 1,
          loadedTonight := min 65535 ((s.depot r.dest).loadedTonight + 1) } ∧
        (∃ q, t.livePlan d = some q ∧ q.SameLoad (plan.confirm p)) ∧
        (∃ u, t.trailer? f = some u ∧ u.loaded = tr.loaded + 1) ∧ t.clock = s.clock ∧
        t.floor.replies = (s.floor.replies.map (fun w => if w.truck = n then { w with opens := false } else w)) ++
          [{ truck := n, msg := .dropOk false remaining head, onAir := false, opens := false }] ∧
        let u := s.completeTask n task
        (∀ run, (u.truck n).run = some run → run.kind = .unload → head = none ∧
          remaining = if run.closing = true then 0 else run.remaining) ∧
        (∀ run m e, (u.truck n).run = some run → run.kind = .load → run.source = .lane m → run.target = some e → m < 96 →
          let goes := fun h => run.closing = false ∧ run.remaining ≠ 0 ∧
            (∃ v q, u.boundAt e = some v ∧ v.state = .loading ∧ u.livePlan e = some q ∧ m ∈ (u.depot q.current).group) ∧
            (u.lane m).fifo = true ∧ (u.lane m).state = .open_ ∧ (u.lane m).holder = some n ∧ (u.lane m).claim = none ∧
            (u.lane m).stalled ≠ some ((u.door e).bound.getD 0) ∧ (u.lane m).contents.head? = some h
          (∀ h, goes h → remaining = run.remaining ∧ head = some h ∧ (t.lane m).claim = some n ∧
            (t.truck n).state = .onRun ∧ (t.truck n).run = some run) ∧
          ((∀ h, ¬ goes h) → (∃ q, u.livePlan e = some q) → remaining = 0 ∧ head = none ∧
            (t.truck n).run = none))) ∧
  (
    ∀ (n : Nat) (x : Location) (s : State) (task : Task), s.slotFor n = true → n ∉ s.sched.freeQueue → x.names = true →
      (s.truck n).state = .onRun → (s.truck n).task = some task → task.target.location ≠ x →
      ∃ t, exec (.drop n task.pallet x) s = .next t ∧ t.truck n = s.truck n ∧ t.pallets = s.pallets ∧ t.doors = s.doors ∧
        t.trailers = s.trailers ∧ t.exceptions = s.exceptions ∧
        (∀ m, (t.lane m).contents = (s.lane m).contents ∧ (t.lane m).reserved = (s.lane m).reserved) ∧
        t.floor.replies = s.floor.replies ++
          [{ truck := n, msg := .wrongDrop task.pallet task.target, onAir := false, opens := false }]) ∧
  (
    ∀ (n p : Nat) (x : Location) (s : State), s.slotFor n = true → x.names = true → (s.truck n).state ≠ .off →
      (∀ task, (s.truck n).task = some task → task.pallet ≠ p) →
      let reply := fun msg => s.floor.replies ++ [({ truck := n, msg := msg, onAir := false, opens := false } : Waiting)]
      let stands := fun (t : State) (last : Option Location) =>
        ((s.truck n).state = .absent → (t.truck n).freeSince = some s.now ∧ (t.truck n).lastLoc = last ∧
          ((t.truck n).state = .free ∧ n ∈ t.sched.freeQueue ∨ s.working = true ∧ (t.truck n).state = .offered)) ∧
        ((s.truck n).state = .free → t.truck n = { s.truck n with lastLoc := last } ∨
          s.working = true ∧ (t.truck n).state = .offered ∧ (t.truck n).lastLoc = last) ∧
        ((s.truck n).state ≠ .absent → n ∉ s.sched.freeQueue → t.truck n = { s.truck n with lastLoc := last })
      let same := fun (t : State) =>
        stands t (s.truck n).lastLoc ∧ t.pallets = s.pallets ∧ t.depots = s.depots ∧ t.doors = s.doors ∧
        t.trailers = s.trailers ∧
        (∀ l, (t.lane l).contents = (s.lane l).contents ∧ (t.lane l).reserved = (s.lane l).reserved ∧
          (t.lane l).claim = (s.lane l).claim ∧ (t.lane l).state = (s.lane l).state) ∧
        (s.pairOne = none → (s.truck n).state ≠ .absent → t.trucks = s.trucks ∧ t.lanes = s.lanes)
      (s.pallet? p = none → ∃ t, exec (.drop n p x) s = .next t ∧ t.floor.replies = reply (.refused p .unknown) ∧ same t ∧
        t.exceptions = s.exceptions) ∧
      (∀ r, s.pallet? p = some r → r.place ≠ .missing (.truck n) → ∃ t, exec (.drop n p x) s = .next t ∧
        t.floor.replies = reply (.tooLate p false) ∧ same t ∧ t.exceptions = s.exceptions) ∧
      (∀ r, s.pallet? p = some r → r.place = .missing (.truck n) →
        let late := fun (t : State) (recovered : Bool) (detail : Nat) =>
          t.floor.replies = reply (.tooLate p recovered) ∧
          t.exceptions.entries = s.exceptions.raised .lateRecovery (.pallet p) s.now s.clock.valid detail
        (∀ l, x = .lane l →
          let takes := (s.lane l).state = .open_ ∧ (s.lane l).level < (s.lane l).capacity ∧
            ((s.lane l).binding = .hold ∨ (s.lane l).binding = .depot r.dest)
          (takes → ∃ t, exec (.drop n p x) s = .next t ∧ late t true (65536 + 256 + l) ∧ stands t (some x) ∧
            t.doors = s.doors ∧ t.trailers = s.trailers ∧
            t.pallet? p = some { r with place := if (s.lane l).fifo = true then .staged l else .held l } ∧
            (t.lane l).contents = (if (s.lane l).fifo = true then (s.lane l).contents ++ [p]
              else insertAsc id p (s.lane l).contents) ∧
            (∀ m, m ≠ l → (t.lane m).contents = (s.lane m).contents)) ∧
          (¬ takes → ∃ t, exec (.drop n p x) s = .next t ∧ late t false (256 + l) ∧ same t)) ∧
        (∀ d, x = .door d →
          (∀ f tr plan q at_, (s.door d).state = .bound → (s.door d).bound = some f → s.trailer? f = some tr →
            tr.state = .loading → tr.loaded < 65535 → s.livePlan d = some plan →
            plan.place (r.entry true) = .placed q at_ → ∃ t, exec (.drop n p x) s = .next t ∧
              late t true (65536 + d) ∧ stands t (some x) ∧ t.livePlan d = some q ∧
              t.pallet? p = some { r with place := .loaded tr.fleet at_.row at_.side.code at_.tier } ∧
              t.trailer? f = some { tr with loaded := tr.loaded + 1 } ∧
              (∀ m, (t.lane m).contents = (s.lane m).contents)) ∧
          (∀ f tr plan reason, (s.door d).state = .bound → (s.door d).bound = some f → s.trailer? f = some tr →
            tr.state = .loading → tr.door = some d → s.livePlan d = some plan →
            plan.place (r.entry true) = .refused reason → ∃ t, exec (.drop n p x) s = .next t ∧
              t.floor.replies = reply (.tooLate p false) ∧ t.pallets = s.pallets ∧
              t.recorded .lateRecovery (.pallet p) = true ∧ (∀ m, (t.lane m).contents = (s.lane m).contents) ∧
              (reason = .noRoom ∨ reason = .overWeight →
                ∃ u, t.trailer? f = some u ∧ (u.state = .closing ∨ u.state = .sealed)) ∧
              (reason ≠ .noRoom → reason ≠ .overWeight → late t false d ∧ same t)) ∧
          ((∀ f tr, (s.door d).state = .bound → (s.door d).bound = some f → s.trailer? f = some tr → tr.state ≠ .loading) →
            ∃ t, exec (.drop n p x) s = .next t ∧ late t false d ∧ same t))))

/-- An offer that lapses leaves the truck ABSENT, outside the queue, with no run; an open task that expires leaves its truck
ABSENT with no run or task, its reservation released, its pallet MISSING, last known at the truck, and TASK_EXPIRED recorded. The
pallet is shown where the night does not end with the task. Every other reservation, and what every lane holds, stands. -/
def Obligations.LapsedOffersAndExpiredTasks : Prop :=
  ∀ (n : Nat) (s : State), s.live = true → n < 32 → n ∉ s.sched.freeQueue →
    (s.isDue (.offer n) = true → (s.truck n).state = .offered → ∃ t, exec (.offerTimerEnd n) s = .next t ∧
      t.truck n = { s.truck n with state := .absent, run := none, offerEnd := none } ∧ n ∉ t.sched.freeQueue ∧
      t.pallets = s.pallets ∧ t.doors = s.doors ∧ t.exceptions = s.exceptions) ∧
    (∀ task r run, s.isDue (.deadline n) = true → (s.truck n).state = .onRun → (s.truck n).task = some task →
      (s.truck n).run = some run → s.pallet? task.pallet = some r → r.place = .moving n → ∃ t,
        exec (.taskDeadline n) s = .next t ∧
        (t.truck n).state = .absent ∧ (t.truck n).run = none ∧ (t.truck n).task = none ∧ n ∉ t.sched.freeQueue ∧
        t.recorded .taskExpired (.truck n) = true ∧ s.TaskReleased t task ∧
        (s.clock.ending = false → t.pallet? task.pallet = some { r with place := .missing (.truck n) }))

/-- A pairing takes the head of the free-truck queue, makes it OFFERED the demand chosen for its last location, with the run limit
of its kind, and hands over a RunOffer; a LOAD run takes its lane's run holder, and the arbitration counter moves by one, modulo
8, exactly when alternation chose. It is made whenever the phase and the survey allow it, the queue holds a truck, a demand is
chosen, and the notice queue has room and no notice for that truck. After the pairings of a step no further pairing is possible,
and where none was possible before a step, of whatever command, none is after it, in every state whose pallet ids do not repeat.
The eligible demands are those of §7.4: UNLOAD, one for each door of an UNLOADING trailer that is below the door's limit, by
dock time; LOAD, one for each open lane, not empty, held or stalled, of the current drop's group of each LOADING trailer below
the door's limit, by departure time and the group's order; and RELOCATE, one for each open bay with a released pallet that can
go on and no such run yet, by bay number. -/
def Obligations.PairingOffersTheHeadTruck : Prop :=
  (∀ s t : State, s.pairOne = some t → ∃ n rest d alternated run, s.sched.freeQueue = n :: rest ∧
    s.chooseDemand (s.truck n).lastLoc = some (d, alternated) ∧
    d ∈ s.loadDemands ++ s.unloadDemands ++ s.relocDemands ∧ s.working = true ∧ s.surveying = false ∧
    run = { kind := d.kind, source := d.source, target := d.target,
            remaining := (match d.kind with
              | .unload => s.sched.settings.unloadLimit | .load => s.sched.settings.loadLimit
              | .reloc => s.sched.settings.relocLimit),
            closing := false, breakMark := false, begun := false } ∧
    t.sched.freeQueue = s.sched.freeQueue.filter (· != n) ∧
    (n < 32 → t.truck n = { s.truck n with state := .offered, run := some run, offerEnd := none }) ∧
    (∀ m, m ≠ n → t.truck m = s.truck m) ∧
    t.sched.counter = (if alternated = true then (s.sched.counter + 1) % 8 else s.sched.counter) ∧
    t.sched.settings = s.sched.settings ∧
    t.floor.notices = s.floor.notices ++ [{ truck := n, msg := .runOffer run, onAir := false, opens := false }] ∧
    (∀ l < 96, d.kind = .load → d.source = .lane l → (t.lane l).holder = some n) ∧
    t.pallets = s.pallets ∧ t.doors = s.doors ∧ t.trailers = s.trailers ∧ t.exceptions = s.exceptions) ∧
  (∀ (s : State) (n : Nat) (rest : List Nat) (d : Demand) (alternated : Bool), s.working = true → s.surveying = false →
    s.sched.freeQueue = n :: rest → s.floor.notices.length < 32 → (∀ w ∈ s.floor.notices, w.truck ≠ n) →
    s.chooseDemand (s.truck n).lastLoc = some (d, alternated) →
    ∃ t, s.pairOne = some t ∧ (n < 32 → ∃ run, (t.truck n).run = some run ∧ run.kind = d.kind ∧ run.source = d.source ∧
      run.target = d.target)) ∧
  (∀ s : State, s.pair.pairOne = none) ∧
  (∀ s t : State, (s.pallets.map PalletRec.id).Nodup → s.pairOne = none → step s = .next t → t.pairOne = none) ∧
  (
    ∀ s : State,
      let active := fun (q : Run → Bool) => (List.range 32).countP (fun n =>
        ((s.truck n).state == .offered || (s.truck n).state == .onRun) && ((s.truck n).run.map q).getD false)
      let at_ := fun (d : Nat) => if (s.door d).state = .bound then (s.door d).bound.bind s.trailer? else none
      let offset := fun (t : Nat) => (t + (86400 - s.clock.topen % 86400)) % 86400
      let unloads := fun (d : Nat) => ∃ tr, at_ d = some tr ∧ tr.state = .unloading ∧
        active (fun r => r.kind == .unload && r.source == .door d) < (s.door d).unloadLimit
      let loads := fun (d l : Nat) => ∃ tr p, at_ d = some tr ∧ tr.state = .loading ∧
        active (fun r => r.kind == .load && r.target == some d) < (s.door d).loadLimit ∧ s.livePlan d = some p ∧
        l ∈ (s.depot p.current).group ∧ (s.lane l).binding = .depot p.current ∧ (s.lane l).state = .open_ ∧
        (s.lane l).contents ≠ [] ∧ (s.lane l).holder = none ∧ (s.lane l).stalled ≠ some p.fleet
      let goesOn := fun (id : Nat) => ∃ r, s.pallet? id = some r ∧ r.place.state = .staged ∧
        ((s.stagingLane r.dest r.service).isSome = true ∨
          ((s.clock.phase = .transfer ∨ s.clock.phase = .close) ∧ ∃ d < 48, ∃ tr p, at_ d = some tr ∧ tr.state = .loading ∧
            s.livePlan d = some p ∧ p.current = r.dest ∧ r.dest ≠ 0))
      let dock := fun d => offset (((at_ d).bind TrailerRec.dock).getD 0)
      let leaves := fun d => offset (((at_ d).map TrailerRec.tdep).getD 0)
      (∀ x, x ∈ s.unloadDemands ↔ ∃ d < 48, unloads d ∧ x = { kind := .unload, source := .door d, target := none }) ∧
      s.unloadDemands.Pairwise (fun x y => ∀ d e, x.source = .door d → y.source = .door e →
        dock d < dock e ∨ dock d = dock e ∧ d < e) ∧
      (∀ x, x ∈ s.loadDemands ↔ ∃ d < 48, ∃ l, loads d l ∧ x = { kind := .load, source := .lane l, target := some d }) ∧
      s.loadDemands.Pairwise (fun x y => ∀ d e, x.target = some d → y.target = some e → d ≠ e →
        leaves d < leaves e ∨ leaves d = leaves e ∧ d < e) ∧
      (∀ d p, s.livePlan d = some p → ∀ before x between y after, s.loadDemands = before ++ x :: between ++ y :: after →
        x.target = some d → y.target = some d → ∀ l m, x.source = .lane l → y.source = .lane m →
        [l, m].Sublist (s.depot p.current).group) ∧
      (∀ x, x ∈ s.relocDemands ↔ ∃ b < 96, x = { kind := .reloc, source := .lane b, target := none } ∧
        (s.lane b).binding = .hold ∧ (s.lane b).state = .open_ ∧
        active (fun r => r.kind == .reloc && r.source == .lane b) = 0 ∧ ∃ id ∈ (s.lane b).contents, goesOn id) ∧
      s.relocDemands.Pairwise (fun x y => ∀ b c, x.source = .lane b → y.source = .lane c → b < c))

/-- The choice of a demand: a hit goes before an urgent LOAD demand, whose trailer's Tdep has an offset no greater than that of now
plus the urgency lead, that before alternation by the counter's slot, and relocation comes last; alternation alone moves the
counter. -/
def Obligations.DemandsAreChosenInOrder : Prop :=
  ∀ (s : State) (last : Option Location),
    let loads := s.loadDemands
    let unloads := s.unloadDemands
    let relocs := s.relocDemands
    let hit := fun d : Demand => some d.source = last
    let offset := fun (t : Nat) => (t + (86400 - s.clock.topen % 86400)) % 86400
    let urgent := fun d : Demand => ∃ n f tr, d.target = some n ∧ (s.door n).state = .bound ∧ (s.door n).bound = some f ∧
      s.trailer? f = some tr ∧ offset tr.tdep ≤ offset s.clock.second + s.sched.settings.urgencyLead
    (∀ d, (∃ before after, loads ++ unloads ++ relocs = before ++ d :: after ∧ hit d ∧ ∀ x ∈ before, ¬ hit x) →
      s.chooseDemand last = some (d, false)) ∧
    ((∀ x ∈ loads ++ unloads ++ relocs, ¬ hit x) →
      (∀ d before after, loads = before ++ d :: after → urgent d → (∀ x ∈ before, ¬ urgent x) →
        s.chooseDemand last = some (d, false)) ∧
      ((∀ x ∈ loads, ¬ urgent x) →
        (∀ d, s.sched.counter < s.sched.settings.loadSlots → loads.head? = some d →
          s.chooseDemand last = some (d, true)) ∧
        (∀ d, s.sched.counter < s.sched.settings.loadSlots → loads = [] → unloads.head? = some d →
          s.chooseDemand last = some (d, true)) ∧
        (∀ d, s.sched.settings.loadSlots ≤ s.sched.counter → unloads.head? = some d →
          s.chooseDemand last = some (d, true)) ∧
        (∀ d, s.sched.settings.loadSlots ≤ s.sched.counter → unloads = [] → loads.head? = some d →
          s.chooseDemand last = some (d, true)) ∧
        (loads = [] → unloads = [] → s.chooseDemand last = relocs.head?.map (fun d => (d, false)))))

/-! ### The floor channel (chapter 8) -/

/-- SetChannel stores the rate, 9600 or 19200 only, and the other settings clamped; a new rate is in use at once while the
transmitter is QUIET and no frame is being received (log entry 7). The widths of the settings in the reply, two bytes for a rate
among them, are the model's: log entry 11. -/
def Obligations.SetChannelStoresTheSettings : Prop :=
  ∀ (tag : Byte) (c : ChannelSettings) (s : State), s.takes (.setChannel tag c) = true → s.surveying = false →
    let k : ChannelSettings :=
      { rate := c.rate, leadIn := max 2 (min 16 c.leadIn), burstLimit := max 1 (min 16 c.burstLimit),
        guardTime := max 20 (min 500 c.guardTime), clearTimeout := max 50 (min 2000 c.clearTimeout) }
    (c.rate ≠ 9600 → c.rate ≠ 19200 → exec (.setChannel tag c) s = .next (s.replied 0x86 tag .badValue [])) ∧
    (c.rate = 9600 ∨ c.rate = 19200 → exec (.setChannel tag c) s = .next
      (State.replied { s with floor := { s.floor with
          settings := k, rate := if s.floor.tx = .quiet ∧ s.floor.rx = [] then c.rate else s.floor.rate } } 0x86 tag
        (if k = c then .done else .doneClamped) (if k = c then [] else emit (channelFields k))))

/-- The transmitter's line events: in KEYING, CLR begins the lead-in and clears the timeout count, CD makes it yield, and the
clear timer's expiry is a clear timeout with its CHANNEL_FAULT and holdoff; CD clearing in YIELDED starts the guard time, as it
was read when KEY dropped (that a yield reads the guard time as KEY drops, and keeps it through YIELDED, is the model's: DEDUCED, log
entry 7); no waiting message is removed. The end of the holdoff and of the guard time makes the transmitter
QUIET, with the rate set in use unless a frame is being received, and it keys at once when CD is clear and a message waits,
reading the lead-in; CD clearing in QUIET makes the same test. What becomes of a CLR level outside KEYING is the model's: DESIGN
CHOICE (log entry 7). -/
def Obligations.TransmitterFollowsTheModemLines : Prop :=
  (
    ∀ s : State, s.live = true →
      (s.floor.tx = .keying → ∃ t, exec .clrAsserted s = .next t ∧ t.floor.tx = .sending ∧ t.floor.timer = none ∧
        t.floor.timeouts = 0 ∧ (∀ n, s.floor.leadIn = some n → t.floor.leadIn = some n) ∧ t.floor.burst = 0 ∧
        t.floor.replies = s.floor.replies ∧ s.floor.notices <+: t.floor.notices) ∧
      (s.floor.tx = .keying → ∃ t, exec .cdAsserted s = .next t ∧ t.floor.tx = .yielded ∧ t.floor.timer = none ∧
        t.floor.cd = true ∧ t.floor.timeouts = s.floor.timeouts ∧ t.floor.replies = s.floor.replies ∧
        t.floor.guard = some s.floor.settings.guardTime ∧ s.floor.notices <+: t.floor.notices) ∧
      (∀ time, s.floor.tx = .yielded → s.floor.guard = some time → ∃ t, exec .cdClears s = .next t ∧
        t.floor.tx = .guard ∧ t.floor.cd = false ∧ t.floor.timer = some time) ∧
      (s.floor.tx = .sending → ∃ t u, exec .cdAsserted s = .next t ∧ exec .clrAsserted s = .next u ∧
        t.floor.tx = .sending ∧ t.floor.cd = true ∧ u.floor.tx = .sending ∧ t.floor.replies = s.floor.replies ∧
        t.floor.onAir = s.floor.onAir ∧ u.floor.onAir = s.floor.onAir) ∧
      (s.floor.tx = .keying → ∃ t, exec .clearTimerExpiry s = .next t ∧ t.floor.tx = .holdoff ∧
        t.floor.timer = some 1000 ∧ t.floor.timeouts = min 255 (s.floor.timeouts + 1) ∧
        t.exceptions.entries =
          s.exceptions.raised .channelFault .none s.now s.clock.valid (min 255 (s.floor.timeouts + 1)) ∧
        t.floor.replies = s.floor.replies ∧ s.floor.notices <+: t.floor.notices)) ∧
  (
    ∀ s : State, s.live = true →
      let rested := fun (t : State) (cd : Bool) =>
        t.floor.rate = (if s.floor.rx = [] then s.floor.settings.rate else s.floor.rate) ∧
        t.floor.replies = s.floor.replies ∧ s.floor.notices <+: t.floor.notices ∧
        (t.floor.tx ≠ .quiet → t.floor.rx = []) ∧
        t.floor.tx =
          (if cd = false ∧ (t.floor.replies ≠ [] ∨ t.floor.notices ≠ []) then
            (if s.floor.clr = true then .sending else .keying) else .quiet) ∧
        (t.floor.tx ≠ .quiet → t.floor.leadIn = some s.floor.settings.leadIn) ∧
        (t.floor.tx = .keying → t.floor.timer = some s.floor.settings.clearTimeout)
      (s.floor.tx = .holdoff → ∃ t, exec .holdoffEnd s = .next t ∧ rested t s.floor.cd) ∧
      (s.floor.tx = .guard → ∃ t, exec .guardTimeEnd s = .next t ∧ rested t s.floor.cd) ∧
      (s.floor.tx = .quiet → ∃ t, exec .cdClears s = .next t ∧ rested t false))

/-- Before each frame the oldest reply is chosen, or, with no reply, the oldest notice; the burst ends, with KEY down and the
guard time running, when both queues are empty or the burst limit is reached. A message leaves its queue when its frame has been
sent. The bytes on the line are the lead-in's, each 0x55, and then each chosen message's frame. The sent events that are reported:
the DropInstruct of a task still ISSUING opens it, its deadline a task time from now, and the RunOffer of a truck still OFFERED
for that run starts its offer timer. That the next frame is chosen, or the burst ends, before the pairings of the same step is the
model's: log entry 22. -/
def Obligations.BurstsSendMessagesAndReportThem : Prop :=
  (
    ∀ s : State, s.live = true → s.floor.tx = .sending →
      let chosen := fun (f : Floor) (burst : Nat) (replies notices : List Waiting) =>
        (s.floor.settings.burstLimit ≤ burst ∨ (replies = [] ∧ notices = []) →
          f.tx = .guard ∧ f.timer = some s.floor.settings.guardTime ∧ f.onAir = none ∧ f.replies = replies) ∧
        (∀ w rest, burst < s.floor.settings.burstLimit → replies = w :: rest →
          f.tx = .sending ∧ f.onAir = some (w.truck, w.msg) ∧ f.replies = { w with onAir := true } :: rest) ∧
        (∀ w rest, burst < s.floor.settings.burstLimit → replies = [] → notices = w :: rest →
          f.tx = .sending ∧ f.onAir = some (w.truck, w.msg) ∧ f.replies = []) ∧
        (f.leadIn = none → f.wire = (match f.onAir with
          | none => []
          | some (n, msg) => floorBytes (BitVec.ofNat 8 n) (BitVec.ofNat 8 msg.kind) msg.body))
      (∀ n, s.floor.leadIn = some n → s.floor.wire.length = n ∧ ∀ b ∈ s.floor.wire, b = 0x55) ∧
      (s.floor.leadIn.isSome = true → ∃ t, exec .leadInSent s = .next t ∧ t.floor.leadIn = none ∧
        chosen t.floor s.floor.burst s.floor.replies s.floor.notices) ∧
      (s.floor.onAir.isSome = true → ∃ t, exec .floorFrameSent s = .next t ∧
        chosen t.floor (s.floor.burst + 1) (s.floor.replies.filter (fun w => !w.onAir))
          (s.floor.notices.filter (fun w => !w.onAir)))) ∧
  (
    ∀ (s : State) (w : Waiting) (rest : List Waiting), s.live = true → s.floor.tx = .sending → s.floor.onAir.isSome = true →
      w.onAir = true → w.truck < 32 →
      (∀ task p target, s.floor.replies = w :: rest → w.msg = .dropInstruct p target → w.opens = true →
        (s.truck w.truck).task = some task → task.open_ = false →
        let d := s.sched.settings
        let base := (match task.kind, task.target with
          | .unload, .lane _ => d.laneBase | .unload, .door .. => d.directBase | .load, _ => d.doorBase | .reloc, _ => d.relocBase)
        let more := if task.first = true ∧ some task.source ≠ (s.truck w.truck).lastLoc then d.changeover else 0
        ∃ t, exec .floorFrameSent s = .next t ∧
          (t.truck w.truck).task = some { task with open_ := true, deadline := some ((s.now + (base + more)) % 86400) }) ∧
      (∀ run, s.floor.replies.all (fun v => !v.onAir) = true → s.floor.notices = w :: rest → w.msg = .runOffer run →
        w.truck ∉ s.sched.freeQueue → (s.truck w.truck).state = .offered → (s.truck w.truck).run = some run →
        ∃ t, exec .floorFrameSent s = .next t ∧
          t.truck w.truck = { s.truck w.truck with offerEnd := some ((s.now + s.sched.settings.offerTime) % 86400) }))

/-- The bytes of a floor frame that passes every check carry its message, for each of the ten terminal kinds. -/
def Obligations.FloorFramesCarryTheirMessages : Prop :=
  ∀ n : Nat, n < 32 →
    let bytes := fun (kind : Byte) (fs : List (Nat × Nat)) => floorBytes (BitVec.ofNat 8 n) kind (emit fs)
    floorReceive (bytes 0x01 []) = some (.logon n) ∧ floorReceive (bytes 0x02 []) = some (.logoff n) ∧
    floorReceive (bytes 0x03 []) = some (.takeBreak n) ∧ floorReceive (bytes 0x04 []) = some (.resume n) ∧
    floorReceive (bytes 0x05 []) = some (.accept n) ∧ floorReceive (bytes 0x06 []) = some (.decline n) ∧
    floorReceive (bytes 0x09 []) = some (.runEnd n) ∧ floorReceive (bytes 0x0A []) = some (.emptyTrailer n) ∧
    (∀ p, p < 2 ^ 32 → floorReceive (bytes 0x07 [(4, p)]) = some (.take n p none)) ∧
    (∀ (p : Nat) (l : Label), p < 2 ^ 32 → l.fits = true →
      floorReceive (bytes 0x07 (l.block p)) = some (.take n p (some l))) ∧
    (∀ p d, p < 2 ^ 32 → d < 48 → floorReceive (bytes 0x08 [(4, p), (1, 1), (1, d)]) = some (.drop n p (.door d))) ∧
    (∀ p l, p < 2 ^ 32 → l < 96 → floorReceive (bytes 0x08 [(4, p), (1, 2), (1, l)]) = some (.drop n p (.lane l)))

/-! ### Exceptions (chapter 9) -/

/-- A raising whose key an entry has coalesces into that entry; so no two entries ever have the same key (R162). A raising whose
key no entry has makes a new entry at the end while fewer than 63 ordinary entries stand, and is merged into the overflow entry,
created at need, when 63 stand (R163). The change count goes on by one at every raising, from 65535 to 0 (R161), and the exception
list's subject is marked (R168). -/
def Obligations.RaisingKeepsOneEntryPerKey : Prop :=
  (∀ (s : State) (k : ExcKind) (x : ExcSubject) (detail : Nat),
    (s.raise k x detail).exceptions.changes = (s.exceptions.changes + 1) % 65536 ∧
    Subject.exceptions ∈ (s.raise k x detail).link.reports) ∧
  (
    (∀ (s : State) (k : ExcKind) (x : ExcSubject) (detail : Nat) (before after : List ExcEntry) (e : ExcEntry),
      s.exceptions.entries = before ++ e :: after → e.kind = k → e.subject = x →
      (∀ y ∈ before ++ after, ¬ (y.kind = k ∧ y.subject = x)) →
      (s.raise k x detail).exceptions.entries = before ++
        { e with count := if e.count < 255 then e.count + 1 else 255, last := s.now, mark := s.clock.valid, detail := detail }
          :: after) ∧
    (∀ (s : State) (k : ExcKind) (x : ExcSubject) (detail : Nat), (s.exceptions.entries.map ExcEntry.key).Nodup →
      ((s.raise k x detail).exceptions.entries.map ExcEntry.key).Nodup)) ∧
  (
    ∀ (s : State) (k : ExcKind) (x : ExcSubject) (detail : Nat),
      (∀ y ∈ s.exceptions.entries, ¬ (y.kind = k ∧ y.subject = x)) →
      let ordinary := (s.exceptions.entries.filter (fun e => e.kind != .listOverflow)).length
      let lost := k.code * 2 ^ 24 + x.typeCode * 2 ^ 16 + x.number % 2 ^ 16
      (ordinary < 63 → (s.raise k x detail).exceptions.entries = s.exceptions.entries ++
        [{ kind := k, subject := x, count := 1, first := s.now, last := s.now, mark := s.clock.valid, detail := detail }]) ∧
      (63 ≤ ordinary → (∀ y ∈ s.exceptions.entries, ¬ (y.kind = .listOverflow ∧ y.subject = .none)) →
        (s.raise k x detail).exceptions.entries = s.exceptions.entries ++
          [{ kind := .listOverflow, subject := .none, count := 1, first := s.now, last := s.now, mark := s.clock.valid,
             detail := lost }]) ∧
      (∀ before e after, 63 ≤ ordinary → s.exceptions.entries = before ++ e :: after → e.kind = .listOverflow →
        e.subject = .none → (∀ y ∈ before ++ after, ¬ (y.kind = .listOverflow ∧ y.subject = .none)) →
        (s.raise k x detail).exceptions.entries = before ++
          { e with count := if e.count < 255 then e.count + 1 else 255, last := s.now, mark := s.clock.valid, detail := lost }
            :: after))

/-- R166: ClearException in its one-entry form makes its checks in order (the survey, the codes, the entry, the guard count); an
accepted clear removes the entry, moves the later ones up, and its reply carries the change count. R167: its all form removes
every entry as one change. -/
def Obligations.ClearingRemovesEntries : Prop :=
  (
    ∀ (tag : Byte) (kind type number count : Nat) (s : State),
      s.takes (.clearException tag kind type number count) = true →
      let c := Instr.clearException tag kind type number count
      (s.surveying = true → exec c s = .next (s.replied 0xB9 tag .notNow [])) ∧
      (s.surveying = false → kind = 0 ∨ 19 < kind ∨ 5 < type → exec c s = .next (s.replied 0xB9 tag .badValue [])) ∧
      (s.surveying = false → 1 ≤ kind → kind ≤ 19 → type ≤ 5 →
        ((∀ e ∈ s.exceptions.entries, ¬ (e.kind.code = kind ∧ e.subject.typeCode = type ∧ e.subject.number = number)) →
          exec c s = .next (s.replied 0xB9 tag .unknown [])) ∧
        (∀ before e after, s.exceptions.entries = before ++ e :: after → e.kind.code = kind → e.subject.typeCode = type →
          e.subject.number = number →
          (∀ y ∈ before ++ after, ¬ (y.kind.code = kind ∧ y.subject.typeCode = type ∧ y.subject.number = number)) →
          (count ≠ 0 → count ≠ e.count → exec c s = .next (s.replied 0xB9 tag .conflict
            [BitVec.ofNat 8 e.count, BitVec.ofNat 8 (e.last / 65536), BitVec.ofNat 8 (e.last / 256), BitVec.ofNat 8 e.last])) ∧
          (count = 0 ∨ count = e.count → ∃ t, exec c s = .next t ∧
            s.shows t 0xB9 tag .done [BitVec.ofNat 8 (t.exceptions.changes / 256), BitVec.ofNat 8 t.exceptions.changes] = true ∧
            t.exceptions.entries = before ++ after ∧ t.exceptions.changes = (s.exceptions.changes + 1) % 65536 ∧
            { t with exceptions := s.exceptions, link := s.link } = s)))) ∧
  (
    ∀ (tag : Byte) (s : State), s.takes (.clearExceptionAll tag) = true →
      (s.surveying = true → exec (.clearExceptionAll tag) s = .next (s.replied 0xB9 tag .notNow [])) ∧
      (s.surveying = false → s.exceptions.entries = [] → exec (.clearExceptionAll tag) s = .next (s.replied 0xB9 tag .done
        [0, BitVec.ofNat 8 (s.exceptions.changes / 256), BitVec.ofNat 8 s.exceptions.changes])) ∧
      (s.surveying = false → s.exceptions.entries ≠ [] → ∃ t, exec (.clearExceptionAll tag) s =
          .next (State.replied t 0xB9 tag .done [BitVec.ofNat 8 s.exceptions.entries.length,
            BitVec.ofNat 8 (t.exceptions.changes / 256), BitVec.ofNat 8 t.exceptions.changes]) ∧
        t.exceptions.entries = [] ∧ t.exceptions.changes = (s.exceptions.changes + 1) % 65536 ∧
        { t with exceptions := s.exceptions, link := s.link } = s))

/-! ### The station link (chapter 10) and start-up (chapter 11) -/

/-- Each frame that the interpreter takes receives exactly one reply: it carries the command's kind plus 0x80, or 0xBF, and the
command's tag, a result, and the link status as the flags stand; the frame leaves the receive queue (that an OVERRUN flag kept
because 32 frames wait is cleared by a later reply is the model's: log entry 28). A refusal other than that of
a Manifest that finds the table full changes nothing else, that of an Announce that finds the pool full included. While the survey
runs every command but the queries is refused, and a query, then and at any other time, changes nothing but the link: it is only
answered. -/
def Obligations.CommandsAreAnsweredOnce : Prop :=
  (
    ∀ (c : Instr) (f : Frame) (s : State), c.frame? = some f → s.takes c = true →
      ∃ t r fields, exec c s = .next t ∧ s.shows t (Frame.replyKind f) f.tag r fields = true ∧
        t.link.receive = s.link.receive.tail ∧
        (r ≠ .done → r ≠ .doneClamped → (r = .full → Instr.isManifest c = false) →
          t = s.replied (Frame.replyKind f) f.tag r fields)) ∧
  (
    ∀ (c : Instr) (f : Frame) (s : State), c.frame? = some f → s.takes c = true →
      (Instr.isQuery c = true → ∃ r fields, exec c s = .next (s.replied (Frame.replyKind f) f.tag r fields)) ∧
      (Instr.isQuery c = false → s.surveying = true → ∃ r fields, r ≠ .done ∧ r ≠ .doneClamped ∧
        exec c s = .next (s.replied (Frame.replyKind f) f.tag r fields)))

/-- R44: the summary of the pallet table, 0 in use after a reset and after Restart. R186: Identify's fields, with its flags in
bits 0 to 3. Both are answered in every phase and change no state. -/
def Obligations.SummaryAndIdentifyAreAnswered : Prop :=
  (∀ (tag : Byte) (s : State), s.takes (.queryPalletSummary tag) = true →
    let n := fun st => (s.pallets.filter (fun r => decide (r.place.state = st))).length
    exec (.queryPalletSummary tag) s = .next (s.replied 0xA0 tag .done
      (emit ((2, s.pallets.length) :: (2, 4096 - s.pallets.length) ::
        [PalletState.expected, .moving, .staged, .held, .loaded, .missing].map (fun st => (2, n st))))) ∧
    n .expected + n .moving + n .staged + n .held + n .loaded + n .missing = s.pallets.length) ∧
  (∀ (rate1 rate0 : Bool) (s : State), ∃ t u, exec (.powerOn rate1 rate0) s = .next t ∧
    exec (.resetPinRelease rate1 rate0) s = .next u ∧ t.pallets.length = 0 ∧ u.pallets.length = 0) ∧
  (∀ (tag : Byte) (s : State), s.takes (.restart tag) = true → s.started = true → s.surveying = false →
    ∃ t, exec (.restart tag) s = .next t ∧ t.pallets.length = 0) ∧
  (∀ (tag : Byte) (s : State), s.takes (.identify tag) = true →
    exec (.identify tag) s = .next (s.replied 0x81 tag .done
      [0x72, 0x40, 0x01,
       (match s.startUp.cause with | .power => 1 | .pin => 2 | .restart => 3),
       (match s.clock.phase with | .unconfigured => 0 | .idle => 1 | .intake => 2 | .transfer => 3 | .close => 4),
       (if s.startUp.configured then 1 else 0) + (if s.clock.rolledOver then 2 else 0) +
         (if s.surveying then 4 else 0) + (if s.clock.ending then 8 else 0)]))

/-- The queries of one record: QueryPallet (for a MOVING pallet, where its truck holds its task), QueryLane, QueryDoor,
QueryTrailer, QueryDepot and QueryTruck give every field of the record in order, most significant byte first, with each absent
form, and refuse a number out of range BAD_VALUE and a record that does not exist UNKNOWN. The widths and the order of the
fields that no rule lays out are the model's: log entry 11. -/
def Obligations.QueriesReadTheirRecords : Prop :=
  let time := fun (t : Option Nat) => (3, t.getD 0xFFFFFF)
  let loc := fun (x : Option Location) => (match x with
    | none => [(1, 0), (1, 0)] | some (.door n) => [(1, 1), (1, n)] | some (.lane n) => [(1, 2), (1, n)])
  let target := fun (x : Option Target) => (match x with
    | none => [(1, 0), (1, 0), (1, 0), (1, 0), (1, 0)]
    | some (.lane n) => [(1, 2), (1, n), (1, 0), (1, 0), (1, 0)]
    | some (.door n row side tier) => [(1, 1), (1, n), (1, row), (1, if side = .a then 1 else 2), (1, tier)])
  let progress := fun (k : Option Task) => (match k with | none => 0 | some k => if k.open_ = true then 2 else 1)
  (∀ (tag : Byte) (p : Nat) (s : State), s.takes (.queryPallet tag p) = true →
    (s.pallet? p = none → exec (.queryPallet tag p) s = .next (s.replied 0xA0 tag .unknown [])) ∧
    (∀ r, s.pallet? p = some r →
      (∀ t, r.place = .moving t → (s.truck t).task.isSome = true) →
      exec (.queryPallet tag p) s = .next (s.replied 0xA0 tag .done (emit
        ([(4, r.id), (1, r.origin), (1, r.dest), (3, r.route.toNat), (2, r.weight), (1, r.height), (2, r.topLoad),
          (1, r.hazard.getD 0), (1, r.service.code), (1, r.hold.toNat), (1, r.saturated.toNat), (1, r.roll),
          (2, r.inbound.getD 0), (1, r.place.state.code)] ++
        (match r.place with
         | .expected f => [(2, f)]
         | .moving t => (match (s.truck t).task with
            | none => []
            | some k => [(1, t), (1, k.kind.code)] ++ loc (some k.source) ++ target (some k.target) ++
                [(1, progress (some k)), time k.deadline])
         | .staged l => [(1, l), (1, if (s.lane l).fifo = true then (s.lane l).contents.idxOf r.id + 1 else 0),
              (1, if (s.lane l).fifo = true then 0 else 1)]
         | .held l => [(1, l)]
         | .loaded f row side tier => [(2, f), (1, row), (1, side), (1, tier)]
         | .missing (.truck n) => [(1, 3), (2, n)]
         | .missing (.lane n) => [(1, 2), (2, n)]
         | .missing (.trailer f) => [(1, 4), (2, f)])))))) ∧
  (∀ (tag : Byte) (l : Nat) (s : State), s.takes (.queryLane tag l) = true →
    (95 < l → exec (.queryLane tag l) s = .next (s.replied 0xA8 tag .badValue [])) ∧
    (l ≤ 95 → let r := s.lane l
      exec (.queryLane tag l) s = .next (s.replied 0xA8 tag .done (emit
        ([(1, r.binding.code), (1, r.fifo.toNat), (1, r.capacity), (1, r.high), (1, r.state.code),
          (1, r.contents.length + r.reserved), (1, r.reserved), (1, r.nearlyFull.toNat), (1, r.holder.getD 255),
          (1, r.claim.getD 255), (1, r.tasksOut), (2, r.stalled.getD 0), (1, r.unverified.toNat), time r.lastCensus,
          (1, l % s.census.groups), (1, r.contents.length)] ++
         (if r.fifo = true then r.contents.map (fun p => (4, p))
          else r.contents.flatMap (fun p =>
            [(4, p), (1, ((s.pallet? p).map (fun q => q.place.state.code)).getD 0xFF)]))))))) ∧
  (∀ (tag : Byte) (d : Nat) (s : State), s.takes (.queryDoor tag d) = true →
    (47 < d → exec (.queryDoor tag d) s = .next (s.replied 0xB0 tag .badValue [])) ∧
    (d ≤ 47 → let r := s.door d
      exec (.queryDoor tag d) s = .next (s.replied 0xB0 tag .done (emit
        ([(1, r.enabled.toNat), (1, r.polarity.code), (2, r.debounce), (2, r.callTime), (1, r.unloadLimit), (1, r.loadLimit),
          (1, r.present.toNat), (1, r.state.code), (2, r.called.getD 0), time r.callEnd, time r.arrival, (2, r.bound.getD 0),
          (1, r.queue.length)] ++ r.queue.flatMap (fun f => [(2, f), (1, (s.callable f).toNat)]) ++
         [(1, r.buffer0.state.code), (1, r.buffer1.state.code), (1, r.recent.getD 255), (1, r.parity)]))))) ∧
  (∀ (tag : Byte) (f : Nat) (s : State), s.takes (.queryTrailer tag f) = true →
    (s.trailer? f = none → exec (.queryTrailer tag f) s = .next (s.replied 0xB3 tag .unknown [])) ∧
    (∀ r, s.trailer? f = some r → exec (.queryTrailer tag f) s = .next (s.replied 0xB3 tag .done (emit
      [(2, r.fleet), (1, r.role.code), (1, r.origin), (1, r.near), (1, r.far.getD 0), (1, r.cls),
       time (r.window.map Prod.fst), time (r.window.map Prod.snd), (3, r.tdep), (2, r.closingLead), (2, r.switchLead),
       time r.gate, time r.dock, (1, r.lapses), (1, r.late.toNat), (1, r.early.toNat), (2, r.expected), (2, r.taken),
       (2, r.loaded), (1, r.door.getD 255), (1, (r.buffer.map Prod.fst).getD 255), (1, (r.buffer.map Prod.snd).getD 255),
       (3, (r.tdep + (86400 - r.closingLead % 86400)) % 86400), (3, (r.tdep + (86400 - r.switchLead % 86400)) % 86400),
       (1, r.state.code)])))) ∧
  (∀ (tag : Byte) (d : Nat) (s : State), s.takes (.queryDepot tag d) = true →
    (d = 0 ∨ 127 < d → exec (.queryDepot tag d) s = .next (s.replied 0xB4 tag .badValue [])) ∧
    (1 ≤ d → d ≤ 127 → let r := s.depot d
      exec (.queryDepot tag d) s = .next (s.replied 0xB4 tag .done (emit
        ([(1, d), (1, r.enabled.toNat), (1, r.home.getD 255), (1, r.group.length)] ++ r.group.map (fun l => (1, l)) ++
         [(1, r.priority.toNat), (1, if r.priority = true ∧ 2 ≤ r.group.length then 1 else 0), (2, r.expected), (2, r.moving),
          (2, r.staged), (2, r.held), (2, r.loaded), (2, r.loadedTonight),
          (1, if r.expected = 0 ∧ r.moving = 0 ∧ r.staged = 0 then 1 else 0)]))))) ∧
  (∀ (tag : Byte) (n : Nat) (s : State), s.takes (.queryTruck tag n) = true →
    (31 < n → exec (.queryTruck tag n) s = .next (s.replied 0xB2 tag .badValue [])) ∧
    (n ≤ 31 → let r := s.truck n
      exec (.queryTruck tag n) s = .next (s.replied 0xB2 tag .done (emit
        ([(1, r.state.code), time r.freeSince,
          (1, if n ∈ s.sched.freeQueue then s.sched.freeQueue.idxOf n + 1 else 0)] ++ loc r.lastLoc ++
         (match r.run with
          | none => [(1, 0), (1, 0), (1, 0), (1, 0), (1, 0), (1, 0), (1, 0)]
          | some x => [(1, x.kind.code)] ++ loc (some x.source) ++ loc (x.target.map .door) ++
              [(1, x.remaining), (1, x.closing.toNat + 2 * x.breakMark.toNat)]) ++
         [time r.offerEnd] ++
         (match r.task with
          | none => [(1, 255), (4, 0), (1, 0)] ++ loc none ++ target none ++ [(1, 0), (1, 0), time none, (1, 0)]
          | some k => [(1, n), (4, k.pallet), (1, k.kind.code)] ++ loc (some k.source) ++ target (some k.target) ++
              [(1, match k.target with | .lane _ => 2 | .door .. => 1), (1, progress (some k)), time k.deadline,
               (1, k.first.toNat)]))))))

/-- The summaries of the census, the trailer pool and the scheduler, the exception entries, the plan of a door, and the answer
BAD_FORM to a frame of unknown kind or wrong form (that QueryPlan refuses a first row out of range before it looks for the buffer is
the model's: log entry 9); a frame that carries a command is answered as that command is (log entry 19).
The rows a QueryPlan lists are whole rows from the first row on, in order, as
many as fit: the listing stays within the room, and a row is left out only where the rows before it and it exceed the room. The
widths and the order of the fields that no rule lays out, and so the room, are the model's: log entry 11. -/
def Obligations.SummariesAndListsAreRead : Prop :=
  (
    let time := fun (t : Option Nat) => (3, t.getD 0xFFFFFF)
    let loc := fun (x : Location) => (match x with | .door n => [(1, 1), (1, n)] | .lane n => [(1, 2), (1, n)])
    let target := fun (x : Target) => (match x with
      | .lane n => [(1, 2), (1, n), (1, 0), (1, 0), (1, 0)]
      | .door n row side tier => [(1, 1), (1, n), (1, row), (1, if side = .a then 1 else 2), (1, tier)])
    (∀ (tag : Byte) (s : State), s.takes (.queryCensusSummary tag) = true →
      let group := fun g : Nat => let r := s.group g
        [(1, r.stage.code), (1, r.lanes.length)] ++ r.lanes.map (fun l => (1, l)) ++ [time r.nextDue, time r.timerEnd]
      exec (.queryCensusSummary tag) s = .next (s.replied 0xA8 tag .done (emit
        ([(2, s.census.interval), (1, s.census.groups), (2, s.census.timeout)] ++ group 0 ++ group 1 ++ group 2 ++ group 3)))) ∧
    (∀ (tag : Byte) (s : State), s.takes (.queryTrailerSummary tag) = true →
      exec (.queryTrailerSummary tag) s = .next (s.replied 0xB3 tag .done (emit
        ([(1, s.trailers.length), (1, 64 - s.trailers.length)] ++
         [TrailerState.announced, .yard, .called, .unloading, .ready, .loading, .closing, .sealed, .emptied, .departed].map
           (fun st => (1, (s.trailers.filter (fun t => decide (t.state = st))).length)))))) ∧
    (∀ (tag : Byte) (s : State), s.takes (.querySchedulerSummary tag) = true → s.tasks = [] →
      exec (.querySchedulerSummary tag) s = .next (s.replied 0xB2 tag .done (emit
        ([(1, s.sched.freeQueue.length)] ++ s.sched.freeQueue.map (fun n => (1, n)) ++ [(1, 0), (1, s.sched.counter)] ++
         dispatchFields s.sched.settings)))) ∧
    (∀ s : State, s.tasks = (List.range 32).filterMap (fun n => (s.truck n).task.map (fun k => (n, k)))) ∧
    (∀ (tag : Byte) (s : State), s.takes (.querySchedulerSummary tag) = true → ∃ list,
      list = emit (s.tasks.flatMap (fun (n, k) =>
        [(1, n), (4, k.pallet), (1, k.kind.code)] ++ loc k.source ++ target k.target ++
        [(1, match k.target with | .lane _ => 2 | .door .. => 1), (1, if k.open_ = true then 2 else 1), time k.deadline,
         (1, k.first.toNat)])) ∧
      exec (.querySchedulerSummary tag) s = .next (s.replied 0xB2 tag .done
        (emit ([(1, s.sched.freeQueue.length)] ++ s.sched.freeQueue.map (fun n => (1, n)) ++ [(1, s.tasks.length)]) ++ list ++
          emit ((1, s.sched.counter) :: dispatchFields s.sched.settings))) ∧ list.length = 19 * s.tasks.length) ∧
    (∀ (tag : Byte) (start maximum : Nat) (s : State), s.takes (.readExceptions tag start maximum) = true →
      (start = 0 ∨ 64 < start ∨ maximum = 0 ∨ 32 < maximum →
        exec (.readExceptions tag start maximum) s = .next (s.replied 0xB8 tag .badValue [])) ∧
      (1 ≤ start → start ≤ 64 → 1 ≤ maximum → maximum ≤ 32 →
        let l := s.exceptions.entries
        exec (.readExceptions tag start maximum) s = .next (s.replied 0xB8 tag .done (emit
          ([(1, l.length), (1, (l.filter (fun e => decide (e.kind ≠ .listOverflow))).length),
            (1, if l.any (fun e => decide (e.kind = .listOverflow)) = true then 1 else 0), (2, s.exceptions.changes)] ++
           ((((l.zipIdx 1).drop (start - 1)).take maximum).flatMap (fun x =>
             [(1, x.2), (1, x.1.kind.code), (1, x.1.subject.typeCode), (4, x.1.subject.number), (1, x.1.count), (3, x.1.first),
              (3, x.1.last), (1, x.1.mark.toNat), (4, x.1.detail)]))))))) ∧
    (∀ (tag : Byte) (d selector : Nat) (first : Option Nat) (s : State), s.takes (.queryPlan tag d selector first) = true →
      let c := Instr.queryPlan tag d selector first
      (47 < d ∨ 1 < selector ∨ first = some 0 ∨ (∃ r, first = some r ∧ 16 < r) →
        exec c s = .next (s.replied 0xB1 tag .badValue [])) ∧
      (d ≤ 47 → (∀ r, first = some r → 1 ≤ r ∧ r ≤ 16) →
        (selector = 0 → (s.door d).liveNo = none → exec c s = .next (s.replied 0xB1 tag .notNow [])) ∧
        (selector = 1 → (s.door d).recent = none → exec c s = .next (s.replied 0xB1 tag .notNow [])) ∧
        (∀ b p, (selector = 0 ∧ (s.door d).liveNo = some b ∨
            selector = 1 ∧ (s.door d).recent = some b ∧ ((s.door d).buffer b).state = .frozen) →
          ((s.door d).buffer b).plan = some p →
          let g := p.figures
          let l := listRows (first.getD 1) 974 (p.rows.drop (first.getD 1 - 1))
          exec c s = .next (s.replied 0xB1 tag .done (emit
            [(1, b), (1, if selector = 0 then 1 else 2), (2, p.fleet), (1, p.classNo), (1, g.rows), (1, g.hmax), (2, g.wmax),
             (1, g.axleX), (2, g.kmax), (2, g.amax), (1, g.tiers), (2, g.dlat.getD 0xFFFF), (1, g.pattern.code),
             (1, g.flip.toNat), (1, p.near), (1, p.far.getD 0), (1, p.parity), (1, p.drop.code), (1, p.openRow),
             (2, p.weight), (4, p.moment), (2, p.weightA), (2, p.weightB), (2, p.axleLoad), (2, p.kingpinLoad),
             (1, p.reserved), (1, p.lost), (1, p.loading.toNat), (1, (p.sealResult.map SealResult.code).getD 0xFF),
             (1, l.lastRow), (1, l.positions)] ++ l.bytes))))) ∧
    (∀ (f : Frame) (s : State), s.takes (.unknownCommand f) = true →
      (f.command = .unknownCommand f →
        exec (.unknownCommand f) s = .next (s.replied (Frame.replyKind f) f.tag .badForm [])) ∧
      exec (.unknownCommand f) s = exec f.command s)) ∧
  (
    ∀ (row room : Nat) (rows : List PlanRow), 1 ≤ row →
      let one := fun (n : Nat) (side : Side) (st : List Entry) => if st = [] then ([] : List (Nat × Nat)) else
        [(1, n), (1, side.code), (1, st.length)] ++ st.flatMap (fun e =>
          [(4, e.id), (2, e.weight), (1, e.height), (2, e.topLoad), (1, e.dest),
           (1, e.hazard.getD 0 + (if e.confirmed = true then 128 else 0))])
      let bytes := fun (k : Nat) => emit (((rows.take k).zipIdx row).flatMap (fun x => one x.2 .a x.1.a ++ one x.2 .b x.1.b))
      ∃ k, k ≤ rows.length ∧ (listRows row room rows).bytes = bytes k ∧ (bytes k).length ≤ room ∧
        (k < rows.length → room < (bytes (k + 1)).length) ∧
        (listRows row room rows).positions =
          (rows.take k).countP (fun r => decide (r.a ≠ [])) + (rows.take k).countP (fun r => decide (r.b ≠ [])) ∧
        ((listRows row room rows).lastRow = 0 ↔ ∀ r ∈ rows.take k, r.a = [] ∧ r.b = []) ∧
        (∀ n r, (rows.take k)[n]? = some r → (r.a ≠ [] ∨ r.b ≠ []) →
          (∀ m q, n < m → (rows.take k)[m]? = some q → q.a = [] ∧ q.b = []) → (listRows row room rows).lastRow = row + n))

/-- Bytes that make a complete frame join the tail of the receive queue, or are discarded with OVERRUN set when it holds 32, while
a reply waits in the slot; with the slot empty and no other frame waiting, the interpreter takes the frame at once. A frame over
length, with a bad CRC, or with a byte gap over a twentieth of the divisor sets FRAME_DISCARDED, and the receiver looks for a
start byte from the next byte on; out of frame it discards every other byte. A command that finds the interpreter busy is such a
frame (log entry 20), and that a divisor just set is the one the gap is judged by, before the next second begins, is the model's (log
entry 30). On the floor channel a discarded frame has no effect, but that the rate set is in use when the transmitter
is QUIET; every byte that comes while KEY is up is discarded, out of frame every byte but the start byte is, and the frame of a
message is that message. -/
def Obligations.FramesJoinTheReceiveQueue : Prop :=
  let offered := fun (f : Frame) (s : State) =>
    if s.link.receive.length < 32 then { s with link := { s.link with receive := s.link.receive ++ [f] } }
    else { s with link := { s.link with overrun := true } }
  let ended := fun (s : State) => { s with link := { s.link with rx := [] } }
  let flagged := fun (s : State) => { s with link := { s.link with rx := [], discarded := true } }
  let outOfFrame := fun (s : State) => { s with floor := { s.floor with
    rx := [], rate := if s.floor.tx = .quiet then s.floor.settings.rate else s.floor.rate } }
  (∀ (f : Frame) (s : State), s.live = true → s.link.rx = [] → f.body.length ≤ 1020 →
    (s.link.slot.isSome = true → exec (.stationFrameComplete f.bytes) s = .next (offered f s)) ∧
    (s.takes (.unknownCommand f) = true → exec (.stationFrameComplete f.bytes) s = exec f.command s)) ∧
  (∀ (c : Instr) (f : Frame) (s : State), s.live = true → s.takes c = false → c.frame? = some f →
    exec c s = .next (ended (offered f s))) ∧
  (∀ (n : Nat) (kind tag c1 c0 : Byte) (body more : List Byte) (s : State), s.live = true → s.link.rx = [] →
    (s.link.slot.isSome = true ∨ s.link.receive = []) → n < 65536 →
    let b1 := BitVec.ofNat 8 (n / 256)
    let b0 := BitVec.ofNat 8 n
    (0xA5 ∉ body → exec (.frameDiscarded (body ++ more)) s = exec (.frameDiscarded more) s ∧
      exec (.frameDiscarded body) s = .next s) ∧
    (1020 < n → exec (.frameDiscarded (0xA5 :: b1 :: b0 :: more)) s = exec (.frameDiscarded more) (flagged s)) ∧
    (body.length = n → n ≤ 1020 → c1 ++ c0 ≠ crc16 (b1 :: b0 :: kind :: tag :: body) →
      exec (.frameDiscarded (0xA5 :: b1 :: b0 :: kind :: tag :: (body ++ [c1, c0] ++ more))) s =
        exec (.frameDiscarded more) (flagged s))) ∧
  (∀ (bytes : List Byte) (s : State), exec (.frameDiscarded bytes) s = exec (.stationFrameComplete bytes) s ∧
    exec (.frameDiscarded []) s = .next s) ∧
  (∀ (gap : Nat) (s : State), s.live = true → exec (.stationByteGapTimeout gap) s =
    .next (if s.link.rx ≠ [] ∧ s.clock.divisor / 20 < gap then flagged s else s)) ∧
  (∀ (bytes : List Byte) (s : State), s.floor.keyed = true → exec (.floorFrameDiscarded bytes) s = .next s) ∧
  (∀ (body more : List Byte) (s : State), s.live = true → s.floor.keyed = false → s.floor.rx = [] →
    (0xC3 ∉ body → exec (.floorFrameDiscarded (body ++ more)) s = exec (.floorFrameDiscarded more) s ∧
      exec (.floorFrameDiscarded body) s = .next s) ∧
    (∀ a : Byte, 31 < a.toNat →
      exec (.floorFrameDiscarded (0xC3 :: a :: more)) s = exec (.floorFrameDiscarded more) (outOfFrame s)) ∧
    (∀ a k n : Byte, a.toNat ≤ 31 → 64 < n.toNat →
      exec (.floorFrameDiscarded (0xC3 :: a :: k :: n :: more)) s = exec (.floorFrameDiscarded more) (outOfFrame s)) ∧
    (∀ a k n : Byte, a.toNat ≤ 31 → n.toNat ≤ 64 → body.length = n.toNat + 2 →
      (floorReceive (0xC3 :: a :: k :: n :: body) = none →
        exec (.floorFrameDiscarded (0xC3 :: a :: k :: n :: (body ++ more))) s =
          exec (.floorFrameDiscarded more) (outOfFrame s)) ∧
      (∀ c, floorReceive (0xC3 :: a :: k :: n :: body) = some c → ∃ t, exec c s = .next t ∧
        exec (.floorFrameDiscarded (0xC3 :: a :: k :: n :: (body ++ more))) s = exec (.floorFrameDiscarded more) t))) ∧
  (∀ s : State, (s.live = false → exec .floorByteGapTimeout s = .next s) ∧
    (s.live = true → exec .floorByteGapTimeout s = .next (if s.floor.rx = [] then s else outOfFrame s)))

/-- The end of a station frame: the departed trailer's record and the records LOADED on it are freed after its report, a truck's
overrun flag is cleared after its report, and no other frame's end does anything; then the transmitter sends the reply that
waits in the slot, or else the head subject's report. A frame that waited for the slot is interpreted as the slot empties; that this
is the same step is the model's (log entry 20), and so is that an OVERRUN flag kept because 32 frames waited is cleared by a later
reply (log entry 28). The interpretation of a frame is that of its command. A report carries the fields of
its subject's record as they stand, laid out as §10.7 gives. The bytes that §10.7 leaves open are the model's, each a DESIGN CHOICE
(log entry 11): the overflow count 0 where no overflow entry stands; row and tier 0 of a lane target, and row, side and tier 0 without
a target; the remaining count and the marks 0 without a run; and the loaded-tonight 0 of an absent far drop and of the near drop of an
INBOUND trailer. -/
def Obligations.SentFramesGiveTheirNotices : Prop :=
  (∀ (s : State) (o : Outgoing), s.live = true → s.link.sending = some o → s.link.receive = [] →
    (o.notice = .none → ∃ t, exec .stationFrameSent s = .next t ∧ { t with link := s.link } = s ∧
      t.link.receive = s.link.receive ∧
      (∀ r, s.link.slot = some r → t.link.slot = none ∧ t.link.reports = s.link.reports ∧
        t.link.sending = some { frame := s.link.replyFrame r.kind r.tag r.result r.fields, notice := .none }) ∧
      (∀ x rest, s.link.slot = none → s.link.reports = x :: rest →
        t.link.reports = rest ∧ t.link.sending = some (s.compose x)) ∧
      (s.link.slot = none → s.link.reports = [] → t.link = { s.link with sending := none })) ∧
    (∀ f tr, o.notice = .departed f → s.trailer? f = some tr → tr.state = .departed → (s.pallets.map PalletRec.id).Nodup →
      ∃ t, exec .stationFrameSent s = .next t ∧ t.trailer? f = none ∧
        t.pallets = (s.pallets.filter (fun r => match r.place with | .loaded g .. => g != f | _ => true)).map (fun r =>
          if r.inbound = some f then { r with inbound := none } else r) ∧
        t.doors = s.doors ∧ t.lanes = s.lanes ∧ t.trucks = s.trucks ∧ t.exceptions = s.exceptions ∧ t.clock = s.clock) ∧
    (∀ n, o.notice = .overrun n → n < 32 → ∃ t, exec .stationFrameSent s = .next t ∧
      t.floor.overrun.get n = false ∧ (∀ m, m ≠ n → t.floor.overrun.get m = s.floor.overrun.get m) ∧
      { t.floor with overrun := s.floor.overrun } = s.floor ∧ { t with floor := s.floor, link := s.link } = s)) ∧
  (∀ (s : State) (o : Outgoing) (r : Reply) (f : Frame) (rest : List Frame), s.live = true → s.link.sending = some o →
    s.link.slot = some r → s.link.receive = f :: rest →
    let u := State.sentNotice { s with link := { s.link with sending := none } } o.notice
    exec .stationFrameSent s = .next (State.interpretFrame { u with link := { u.link with
      slot := none, receive := rest, discarded := false, overrun := s.link.overrun && decide (32 ≤ s.link.receive.length),
      sending := some { frame := s.link.replyFrame r.kind r.tag r.result r.fields, notice := .none } } } f)) ∧
  (∀ (s : State) (f : Frame), s.takes (.unknownCommand f) = true → s.link.rx = [] →
    exec f.command s = .next (s.interpretFrame f)) ∧
  (
    let time := fun (t : Option Nat) => (3, t.getD 0xFFFFFF)
    let loc := fun (x : Option Location) => (match x with
      | none => [(1, 0), (1, 0)] | some (.door n) => [(1, 1), (1, n)] | some (.lane n) => [(1, 2), (1, n)])
    let target := fun (x : Option Target) => (match x with
      | none => [(1, 0), (1, 0), (1, 0), (1, 0), (1, 0)]
      | some (.lane n) => [(1, 2), (1, n), (1, 0), (1, 0), (1, 0)]
      | some (.door n row side tier) => [(1, 1), (1, n), (1, row), (1, if side = .a then 1 else 2), (1, tier)])
    let report := fun (kind : Byte) (notice : SentNotice) (fields : List (Nat × Nat)) =>
      ({ frame := { kind := kind, tag := 0, body := emit fields }, notice := notice } : Outgoing)
    (∀ s : State, let c := s.clock
      s.compose .phase = report 0xC0 .none
        [(1, c.phase.code),
         (1, c.ending.toNat + 2 * c.rolledOver.toNat + 4 * c.valid.toNat + 8 * c.nightValid.toNat),
         (3, c.second), (3, c.topen), (3, c.ttransfer), (3, c.tclose), (3, c.tend)]) ∧
    (∀ (s : State) (d : Nat), let r := s.door d
      s.compose (.door d) = report 0xC1 .none
        [(1, d), (1, r.state.code), (1, r.present.toNat), (2, r.called.getD 0), time r.callEnd, time r.arrival,
         (2, r.bound.getD 0), (1, r.queue.length), (2, r.queue.head?.getD 0),
         (1, r.buffer0.state.code + 4 * r.buffer1.state.code + (if r.recent = some 1 then 16 else 0)), (1, r.parity)]) ∧
    (∀ (s : State) (l : Nat), let r := s.lane l
      (∀ id ∈ r.contents, (s.pallet? id).isSome = true) →
      s.compose (.lane l) = report 0xC2 .none
        ([(1, l), (1, r.binding.code), (1, r.state.code), (1, r.capacity), (1, r.high), (1, r.contents.length + r.reserved),
          (1, r.reserved), (1, r.nearlyFull.toNat + 2 * r.unverified.toNat + 4 * r.fifo.toNat), (1, r.holder.getD 255),
          (1, r.claim.getD 255), (1, r.tasksOut), (2, r.stalled.getD 0), time r.lastCensus, (1, l % s.census.groups),
          (1, r.contents.length)] ++
         r.contents.flatMap (fun id => (s.pallet? id).toList.flatMap (fun p => [(4, id), (1, p.place.state.code)])))) ∧
    (∀ (s : State) (n : Nat), let r := s.truck n
      s.compose (.truck n) = report 0xC3 (if s.floor.overrun.get n = true then .overrun n else .none)
        ([(1, n), (1, r.state.code), time r.freeSince] ++ loc r.lastLoc ++
         (match r.run with
          | none => [(1, 0), (1, 0), (1, 0), (1, 0), (1, 0), (1, 0), (1, 0)]
          | some x => [(1, x.kind.code)] ++ loc (some x.source) ++ loc (x.target.map .door) ++
              [(1, x.remaining), (1, x.closing.toNat + 2 * x.breakMark.toNat)]) ++
         [time r.offerEnd, (4, (r.task.map Task.pallet).getD 0),
          (1, match r.task with | none => 0 | some k => if k.open_ = true then 2 else 1)] ++
         target (r.task.map Task.target) ++ [time (r.task.bind Task.deadline), (1, (s.floor.overrun.get n).toNat)])) ∧
    (∀ (s : State) (f : Nat) (r : TrailerRec), s.trailer? f = some r →
      s.compose (.trailer f) = report 0xC4 (if r.state = .departed then .departed f else .none)
        ([(2, r.fleet), (1, r.role.code), (1, r.state.code), (1, r.origin), (1, r.near), (1, r.far.getD 0), (1, r.cls),
          time (r.window.map Prod.fst), time (r.window.map Prod.snd), (3, r.tdep), (2, r.closingLead), (2, r.switchLead),
          time r.gate, time r.dock, (1, r.lapses), (1, r.late.toNat + 2 * r.early.toNat), (2, r.expected), (2, r.taken),
          (2, r.loaded), (1, r.door.getD 255), (1, (r.buffer.map Prod.snd).getD 255)] ++
         (match r.buffer.bind (fun (d, b) => ((s.door d).buffer b).plan) with
          | none => [(1, 255), (1, 255), (2, 0), (4, 0), (2, 0), (2, 0), (2, 0), (2, 0), (1, 255), (1, 255), (1, 255)]
          | some p => [(1, p.drop.code), (1, p.openRow), (2, p.weight), (4, p.moment), (2, p.weightA), (2, p.weightB),
              (2, p.axleLoad), (2, p.kingpinLoad), (1, p.reserved), (1, p.lost),
              (1, (p.sealResult.map SealResult.code).getD 255)]) ++
         [(2, (s.depot r.near).loadedTonight),
          (2, match r.far with | none => 0 | some e => (s.depot e).loadedTonight)])) ∧
    (∀ s : State, let l := s.exceptions.entries
      let overflow := l.find? (fun e => decide (e.kind = .listOverflow))
      s.compose .exceptions = report 0xC5 .none
        [(1, l.length), (1, l.countP (fun e => decide (e.kind ≠ .listOverflow))), (1, overflow.isSome.toNat),
         (1, (overflow.map ExcEntry.count).getD 0), (2, s.exceptions.changes)]) ∧
    (∀ (s : State) (g : Nat), let r := s.group g
      let awaiting := r.lanes.filter (fun l => decide ((s.lane l).state = .locked))
      s.compose (.census g) = report 0xC6 .none
        ([(1, g), (1, r.stage.code), (1, awaiting.length)] ++ awaiting.map (fun l => (1, l)))))

/-- Start, and the survey that follows it: the checks in the order of their table, each refusal with its item and what it names;
an accepted Start sets the configured flag and the survey's count, and at the survey's end the enabled doors are set from their
debounced levels and the phase is IDLE. A phase time that the survey saw reached is due no more after it. That a divisor just set is in
force for the survey's count at once is the model's: log entry 30. -/
def Obligations.StartChecksAndSurveys : Prop :=
  (∀ (tag : Byte) (s : State), s.takes (.start tag) = true → s.surveying = false →
    let badLane := fun d l => l ∈ (s.depot d).group ∧ (s.lane l).binding ≠ .depot d
    let badDoor := fun d h => (s.depot d).enabled = true ∧ (s.depot d).home = some h ∧ (s.door h).enabled = false
    let lanesGood := ∀ d, 1 ≤ d → d ≤ 127 → ∀ l, ¬ badLane d l
    let doorsGood := ∀ d, 1 ≤ d → d ≤ 127 → ∀ h, ¬ badDoor d h
    let refused := fun fields => exec (.start tag) s = .next (s.replied 0x8E tag .conflict fields)
    (s.started = true → exec (.start tag) s = .next (s.replied 0x8E tag .notNow [])) ∧
    (s.started = false → s.clock.valid = false → refused [1]) ∧
    (s.started = false → s.clock.valid = true → s.clock.nightValid = false → refused [2]) ∧
    (s.started = false → s.clock.valid = true → s.clock.nightValid = true →
      (∀ d l before after, 1 ≤ d → d ≤ 127 → (∀ e, 1 ≤ e → e < d → ∀ m, ¬ badLane e m) →
        (s.depot d).group = before ++ l :: after → (s.lane l).binding ≠ .depot d →
        (∀ m ∈ before, (s.lane m).binding = .depot d) → refused [3, BitVec.ofNat 8 d, BitVec.ofNat 8 l]) ∧
      (lanesGood → ∀ d h, 1 ≤ d → d ≤ 127 → (∀ e, 1 ≤ e → e < d → ∀ g, ¬ badDoor e g) → badDoor d h →
        refused [4, BitVec.ofNat 8 d, BitVec.ofNat 8 h]) ∧
      (lanesGood → doorsGood → (∀ l < 96, (s.lane l).binding ≠ .hold) → refused [5]) ∧
      (lanesGood → doorsGood → ∀ b < 96, (s.lane b).binding = .hold → ∀ longest : Nat,
        (∀ d < 48, (s.door d).debounce ≤ longest) → (∃ d < 48, (s.door d).debounce = longest) →
        exec (.start tag) s = .next (State.replied { s with startUp := { s.startUp with
          configured := true, survey := some { elapsed := 0, total := longest * s.clock.divisor } } } 0x8E tag .done [])))) ∧
  (∀ (s : State) (c : PeriodCount), s.live = true → s.startUp.survey = some c → c.total ≤ c.elapsed →
    ∃ t, exec .surveyEnd s = .next t ∧ t.startUp = { s.startUp with survey := none } ∧
      (∀ d < 48, (s.door d).enabled = true → t.door d =
        (if (s.door d).present = true then
          { s.door d with state := .arrived, called := none, arrival := some s.now }
         else { s.door d with state := .free })) ∧
      (∀ d < 48, (s.door d).enabled = false → t.door d = s.door d) ∧
      t.clock = (if s.clock.phase = .unconfigured then { s.clock with phase := .idle } else s.clock) ∧
      t.pallets = s.pallets ∧ t.trailers = s.trailers ∧ t.exceptions = s.exceptions ∧
      (∀ time : NightTime, t.isDue (.phaseTime time) = false))

/-- An accepted Restart discards the night in one step, keeps what §11.3 keeps, and begins the survey; it is refused
UNCONFIGURED before Start and NOT_NOW during a survey. The rate straps as sampled stand, and so do the link flags, but for what the
reply itself does: one whose transmission begins at once carries them as they stood and clears them (R174). The survey counts out the
largest debounce time set for any of the 48 doors times the divisor in force (a divisor just set is: log entry 30). The reply goes
before every report the changes mark (log entry 16). The door records, their states included, stand as they are from Restart to the
survey's end: log entry 14. -/
def Obligations.RestartKeepsConfigurationOnly : Prop :=
  ∀ (tag : Byte) (s : State), s.takes (.restart tag) = true →
    (s.started = false → exec (.restart tag) s = .next (s.replied 0x8F tag .unconfigured [])) ∧
    (s.started = true → s.surveying = true → exec (.restart tag) s = .next (s.replied 0x8F tag .notNow [])) ∧
    (s.started = true → s.surveying = false → ∃ t, exec (.restart tag) s = .next t ∧
      s.shows t 0x8F tag .done [] = true ∧
      t.startUp.cause = .restart ∧ t.startUp.configured = s.startUp.configured ∧
      (∃ longest, (∀ d < 48, (s.door d).debounce ≤ longest) ∧ (∃ d < 48, (s.door d).debounce = longest) ∧
        t.startUp.survey = some { elapsed := 0, total := longest * s.clock.divisor }) ∧
      t.link.rate1 = s.link.rate1 ∧ t.link.rate0 = s.link.rate0 ∧
      (s.link.sending ≠ none → t.link.discarded = s.link.discarded ∧ t.link.overrun = s.link.overrun) ∧
      (s.link.sending = none → t.link.discarded = false ∧ t.link.overrun = false) ∧
      t.clock = { s.clock with phase := .idle, ending := false, rolledOver := false } ∧
      t.routes = s.routes ∧ t.classes = s.classes ∧ t.sched.settings = s.sched.settings ∧
      (∀ d, 1 ≤ d → d ≤ 127 → t.depot d = { s.depot d with
        expected := 0, moving := 0, staged := 0, held := 0, loaded := 0, loadedTonight := 0 }) ∧
      t.pallets = [] ∧ t.trailers = [] ∧
      (∀ d < 48, t.door d = { s.door d with
        called := none, callEnd := none, arrival := none, bound := none, queue := [],
        buffer0 := { state := .free, plan := none }, buffer1 := { state := .free, plan := none }, recent := none,
        parity := 0 }) ∧
      (∀ l < 96, t.lane l =
        { binding := (s.lane l).binding, capacity := (s.lane l).capacity, high := (s.lane l).high,
          state := if (s.lane l).binding = .none then .off else .open_, contents := [], reserved := 0, nearlyFull := false,
          holder := none, claim := none, tasksOut := 0, stalled := none, unverified := false, lastCensus := none }) ∧
      t.census.interval = s.census.interval ∧ t.census.groups = s.census.groups ∧ t.census.timeout = s.census.timeout ∧
      (∀ g < 4, t.group g = { stage := .none, lanes := [], nextDue := none, timerEnd := none }) ∧
      (∀ n < 32, t.truck n =
        { state := .off, freeSince := none, lastLoc := none, run := none, offerEnd := none, task := none }) ∧
      t.sched.freeQueue = [] ∧ t.sched.counter = 0 ∧
      t.floor.settings = s.floor.settings ∧ t.floor.replies = [] ∧ t.floor.notices = [] ∧ t.floor.onAir = none ∧
      t.floor.timeouts = 0 ∧ (∀ n < 32, t.floor.overrun.get n = false) ∧
      t.floor.tx = (match s.floor.tx with | .keying | .sending => .guard | x => x) ∧
      t.exceptions = { entries := [], changes := 0 } ∧ t.link.receive = s.link.receive.tail ∧
      (∀ f, Subject.trailer f ∉ t.link.reports))

/-! ### Encodings and invariants -/

/-- Every well-formed command of the depot computer, spelled as the bytes of a frame, is gathered as that frame, and the frame
carries the command back, with every operand. The widths and forms that no rule lays out are the model's: log entry 11. -/
def Obligations.FramesSpellEveryCommand : Prop :=
  ∀ (c : Instr) (f : Frame), c.wellFormed = true → c.frame? = some f →
    f.body.length ≤ 1020 ∧ gather f.bytes = .frame f ∧ f.command = c

/-- Every step keeps the agreement of the pallet table and the depot table: no two records with one id, and each counter of each
depot equal to the number of records it counts. -/
def Obligations.StepsKeepTheCountersEqualToTheRecords : Prop :=
  ∀ s t : State, s.RecordsCounted → step s = .next t → t.RecordsCounted

/-- Every step keeps the free-truck queue: it holds the FREE trucks and no others, none twice, and a truck has a run exactly
when it is OFFERED or ON_RUN and a task only when it is ON_RUN. -/
def Obligations.StepsKeepTheFreeQueueOfFreeTrucks : Prop :=
  ∀ s t : State, s.QueueSound → step s = .next t → t.QueueSound

/-- Every step keeps the capacities of the tables and queues, the exception list's form, the times of day in range, the floor
channel's 16 replies and one notice for each truck, its key-up (while the transmitter is QUIET and CD clear no message waits;
kept where no two pallet records have one id), the station link's form (an idle transmitter has nothing to send, and a frame
waits only while the reply slot is full), and the censuses' (a group's census lanes are its own, and bound and CENSUS_PENDING while
it is PENDING). A step that changes the exception list, a lane or a truck leaves its subject in the
report queue, or a report of the record as it now stands being sent, unless it resets the part or a survey begins in it; of the
changes of a lane that the rules do not name, that they mark it is the model's (log entry 12). -/
def Obligations.StepsKeepTheTablesInForm : Prop :=
  ∀ s t : State, step s = .next t →
    (s.WithinCapacity → t.WithinCapacity) ∧ (s.exceptions.Sound → t.exceptions.Sound) ∧ (s.clock.inDay → t.clock.inDay) ∧
    ((s.pallets.map PalletRec.id).Nodup → s.FloorQueuesSound → t.FloorQueuesSound) ∧ (s.LinkSound → t.LinkSound) ∧
    (s.CensusSound → t.CensusSound) ∧
    (s.LinkSound → (∀ c rest, s.pending = c :: rest → Instr.resets c = false) → (s.surveying = true ∨ t.surveying = false) →
      (t.exceptions ≠ s.exceptions → t.reported .exceptions) ∧
      (∀ l < 96, t.lane l ≠ s.lane l → Subject.lane l ∈ t.link.reports ∨
        ∃ u : State, u.lane l = t.lane l ∧ t.link.sending = some (u.compose (.lane l))) ∧
      (∀ n < 32, t.truck n ≠ s.truck n → t.reported (.truck n)))

/-- The machine after reset meets every invariant that the steps are stated to keep; no pairing is possible in it. -/
def Obligations.ResetMeetsEveryInvariant : Prop :=
  State.reset.RecordsCounted ∧ State.reset.QueueSound ∧ State.reset.WithinCapacity ∧ State.reset.exceptions.Sound ∧
    State.reset.clock.inDay ∧ State.reset.FloorQueuesSound ∧ State.reset.LinkSound ∧ State.reset.LanesHeld ∧
    State.reset.PlansHeld ∧ State.reset.CensusSound ∧ State.reset.pairOne = none
end

