-- ==== Sys2Proof/Laws/State.lean ====
section
/-!
SUPPORT. Tables and record updates: what a table reads after a write, and, for each update of one record or of the report
queue, one lemma per field it leaves alone.
-/

namespace Sys2Proof

/-! ### Tables -/

@[simp] theorem Table.get_set_self [Inhabited α] (t : Table n α) (i : Nat) (a : α) (h : i < n) : (t.set i a).get i = a := by
  have : i < t.rows.length := by rw [t.size]; exact h
  simp [Table.get, Table.set, this]

@[simp] theorem Table.get_set_of_ne [Inhabited α] (t : Table n α) (i j : Nat) (a : α) (h : i ≠ j) :
    (t.set i a).get j = t.get j := by
  simp [Table.get, Table.set, h]

/-- A number past the table's end changes nothing. -/
theorem Table.set_of_le (t : Table n α) (i : Nat) (a : α) (h : n ≤ i) : t.set i a = t := by
  have : t.rows.length ≤ i := by rw [t.size]; exact h
  cases t; simp [Table.set, List.set_eq_of_length_le this]

@[simp] theorem Table.get_fill [Inhabited α] (a : α) (i : Nat) (h : i < n) : (Table.fill n a).get i = a := by
  simp [Table.get, Table.fill, h]

@[simp] theorem Table.get_map [Inhabited α] [Inhabited β] (f : α → β) (t : Table n α) (i : Nat) (h : i < n) :
    (t.map f).get i = f (t.get i) := by
  have : i < t.rows.length := by rw [t.size]; exact h
  simp [Table.get, Table.map, this]

/-- A number past the table's end reads the default record. -/
theorem Table.get_of_le [Inhabited α] (t : Table n α) (i : Nat) (h : n ≤ i) : t.get i = default := by
  have : t.rows.length ≤ i := by rw [t.size]; exact h
  simp [Table.get, List.getElem?_eq_none this]

namespace Machine

/-! ### `State.modDoor` -/

section
variable (s : State) (d : Nat) (f : DoorRec → DoorRec)

@[simp] theorem State.modDoor_pending : (s.modDoor d f).pending = s.pending := rfl
@[simp] theorem State.modDoor_startUp : (s.modDoor d f).startUp = s.startUp := rfl
@[simp] theorem State.modDoor_clock : (s.modDoor d f).clock = s.clock := rfl
@[simp] theorem State.modDoor_due : (s.modDoor d f).due = s.due := rfl
@[simp] theorem State.modDoor_routes : (s.modDoor d f).routes = s.routes := rfl
@[simp] theorem State.modDoor_depots : (s.modDoor d f).depots = s.depots := rfl
@[simp] theorem State.modDoor_pallets : (s.modDoor d f).pallets = s.pallets := rfl
@[simp] theorem State.modDoor_trailers : (s.modDoor d f).trailers = s.trailers := rfl
@[simp] theorem State.modDoor_lanes : (s.modDoor d f).lanes = s.lanes := rfl
@[simp] theorem State.modDoor_census : (s.modDoor d f).census = s.census := rfl
@[simp] theorem State.modDoor_classes : (s.modDoor d f).classes = s.classes := rfl
@[simp] theorem State.modDoor_trucks : (s.modDoor d f).trucks = s.trucks := rfl
@[simp] theorem State.modDoor_sched : (s.modDoor d f).sched = s.sched := rfl
@[simp] theorem State.modDoor_floor : (s.modDoor d f).floor = s.floor := rfl
@[simp] theorem State.modDoor_exceptions : (s.modDoor d f).exceptions = s.exceptions := rfl
@[simp] theorem State.modDoor_link : (s.modDoor d f).link = s.link := rfl

end

/-! ### `State.modLane` -/

section
variable (s : State) (l : Nat) (f : LaneRec → LaneRec)

@[simp] theorem State.modLane_pending : (s.modLane l f).pending = s.pending := rfl
@[simp] theorem State.modLane_startUp : (s.modLane l f).startUp = s.startUp := rfl
@[simp] theorem State.modLane_clock : (s.modLane l f).clock = s.clock := rfl
@[simp] theorem State.modLane_due : (s.modLane l f).due = s.due := rfl
@[simp] theorem State.modLane_routes : (s.modLane l f).routes = s.routes := rfl
@[simp] theorem State.modLane_depots : (s.modLane l f).depots = s.depots := rfl
@[simp] theorem State.modLane_pallets : (s.modLane l f).pallets = s.pallets := rfl
@[simp] theorem State.modLane_doors : (s.modLane l f).doors = s.doors := rfl
@[simp] theorem State.modLane_trailers : (s.modLane l f).trailers = s.trailers := rfl
@[simp] theorem State.modLane_census : (s.modLane l f).census = s.census := rfl
@[simp] theorem State.modLane_classes : (s.modLane l f).classes = s.classes := rfl
@[simp] theorem State.modLane_trucks : (s.modLane l f).trucks = s.trucks := rfl
@[simp] theorem State.modLane_sched : (s.modLane l f).sched = s.sched := rfl
@[simp] theorem State.modLane_floor : (s.modLane l f).floor = s.floor := rfl
@[simp] theorem State.modLane_exceptions : (s.modLane l f).exceptions = s.exceptions := rfl
@[simp] theorem State.modLane_link : (s.modLane l f).link = s.link := rfl

end

/-! ### `State.modTruck` -/

section
variable (s : State) (t : Nat) (f : TruckRec → TruckRec)

@[simp] theorem State.modTruck_pending : (s.modTruck t f).pending = s.pending := rfl
@[simp] theorem State.modTruck_startUp : (s.modTruck t f).startUp = s.startUp := rfl
@[simp] theorem State.modTruck_clock : (s.modTruck t f).clock = s.clock := rfl
@[simp] theorem State.modTruck_due : (s.modTruck t f).due = s.due := rfl
@[simp] theorem State.modTruck_routes : (s.modTruck t f).routes = s.routes := rfl
@[simp] theorem State.modTruck_depots : (s.modTruck t f).depots = s.depots := rfl
@[simp] theorem State.modTruck_pallets : (s.modTruck t f).pallets = s.pallets := rfl
@[simp] theorem State.modTruck_doors : (s.modTruck t f).doors = s.doors := rfl
@[simp] theorem State.modTruck_trailers : (s.modTruck t f).trailers = s.trailers := rfl
@[simp] theorem State.modTruck_lanes : (s.modTruck t f).lanes = s.lanes := rfl
@[simp] theorem State.modTruck_census : (s.modTruck t f).census = s.census := rfl
@[simp] theorem State.modTruck_classes : (s.modTruck t f).classes = s.classes := rfl
@[simp] theorem State.modTruck_sched : (s.modTruck t f).sched = s.sched := rfl
@[simp] theorem State.modTruck_floor : (s.modTruck t f).floor = s.floor := rfl
@[simp] theorem State.modTruck_exceptions : (s.modTruck t f).exceptions = s.exceptions := rfl
@[simp] theorem State.modTruck_link : (s.modTruck t f).link = s.link := rfl

end

/-! ### `State.modGroup` -/

section
variable (s : State) (g : Nat) (f : GroupRec → GroupRec)

@[simp] theorem State.modGroup_pending : (s.modGroup g f).pending = s.pending := rfl
@[simp] theorem State.modGroup_startUp : (s.modGroup g f).startUp = s.startUp := rfl
@[simp] theorem State.modGroup_clock : (s.modGroup g f).clock = s.clock := rfl
@[simp] theorem State.modGroup_due : (s.modGroup g f).due = s.due := rfl
@[simp] theorem State.modGroup_routes : (s.modGroup g f).routes = s.routes := rfl
@[simp] theorem State.modGroup_depots : (s.modGroup g f).depots = s.depots := rfl
@[simp] theorem State.modGroup_pallets : (s.modGroup g f).pallets = s.pallets := rfl
@[simp] theorem State.modGroup_doors : (s.modGroup g f).doors = s.doors := rfl
@[simp] theorem State.modGroup_trailers : (s.modGroup g f).trailers = s.trailers := rfl
@[simp] theorem State.modGroup_lanes : (s.modGroup g f).lanes = s.lanes := rfl
@[simp] theorem State.modGroup_classes : (s.modGroup g f).classes = s.classes := rfl
@[simp] theorem State.modGroup_trucks : (s.modGroup g f).trucks = s.trucks := rfl
@[simp] theorem State.modGroup_sched : (s.modGroup g f).sched = s.sched := rfl
@[simp] theorem State.modGroup_floor : (s.modGroup g f).floor = s.floor := rfl
@[simp] theorem State.modGroup_exceptions : (s.modGroup g f).exceptions = s.exceptions := rfl
@[simp] theorem State.modGroup_link : (s.modGroup g f).link = s.link := rfl

end

/-! ### `State.modPallet` -/

section
variable (s : State) (id : Nat) (f : PalletRec → PalletRec)

@[simp] theorem State.modPallet_pending : (s.modPallet id f).pending = s.pending := rfl
@[simp] theorem State.modPallet_startUp : (s.modPallet id f).startUp = s.startUp := rfl
@[simp] theorem State.modPallet_clock : (s.modPallet id f).clock = s.clock := rfl
@[simp] theorem State.modPallet_due : (s.modPallet id f).due = s.due := rfl
@[simp] theorem State.modPallet_routes : (s.modPallet id f).routes = s.routes := rfl
@[simp] theorem State.modPallet_depots : (s.modPallet id f).depots = s.depots := rfl
@[simp] theorem State.modPallet_doors : (s.modPallet id f).doors = s.doors := rfl
@[simp] theorem State.modPallet_trailers : (s.modPallet id f).trailers = s.trailers := rfl
@[simp] theorem State.modPallet_lanes : (s.modPallet id f).lanes = s.lanes := rfl
@[simp] theorem State.modPallet_census : (s.modPallet id f).census = s.census := rfl
@[simp] theorem State.modPallet_classes : (s.modPallet id f).classes = s.classes := rfl
@[simp] theorem State.modPallet_trucks : (s.modPallet id f).trucks = s.trucks := rfl
@[simp] theorem State.modPallet_sched : (s.modPallet id f).sched = s.sched := rfl
@[simp] theorem State.modPallet_floor : (s.modPallet id f).floor = s.floor := rfl
@[simp] theorem State.modPallet_exceptions : (s.modPallet id f).exceptions = s.exceptions := rfl
@[simp] theorem State.modPallet_link : (s.modPallet id f).link = s.link := rfl

end

/-! ### `State.modTrailer` -/

section
variable (s : State) (x : Nat) (f : TrailerRec → TrailerRec)

@[simp] theorem State.modTrailer_pending : (s.modTrailer x f).pending = s.pending := rfl
@[simp] theorem State.modTrailer_startUp : (s.modTrailer x f).startUp = s.startUp := rfl
@[simp] theorem State.modTrailer_clock : (s.modTrailer x f).clock = s.clock := rfl
@[simp] theorem State.modTrailer_due : (s.modTrailer x f).due = s.due := rfl
@[simp] theorem State.modTrailer_routes : (s.modTrailer x f).routes = s.routes := rfl
@[simp] theorem State.modTrailer_depots : (s.modTrailer x f).depots = s.depots := rfl
@[simp] theorem State.modTrailer_pallets : (s.modTrailer x f).pallets = s.pallets := rfl
@[simp] theorem State.modTrailer_doors : (s.modTrailer x f).doors = s.doors := rfl
@[simp] theorem State.modTrailer_lanes : (s.modTrailer x f).lanes = s.lanes := rfl
@[simp] theorem State.modTrailer_census : (s.modTrailer x f).census = s.census := rfl
@[simp] theorem State.modTrailer_classes : (s.modTrailer x f).classes = s.classes := rfl
@[simp] theorem State.modTrailer_trucks : (s.modTrailer x f).trucks = s.trucks := rfl
@[simp] theorem State.modTrailer_sched : (s.modTrailer x f).sched = s.sched := rfl
@[simp] theorem State.modTrailer_floor : (s.modTrailer x f).floor = s.floor := rfl
@[simp] theorem State.modTrailer_exceptions : (s.modTrailer x f).exceptions = s.exceptions := rfl
@[simp] theorem State.modTrailer_link : (s.modTrailer x f).link = s.link := rfl

end

/-! ### `State.modDepot` -/

section
variable (s : State) (d : Nat) (f : DepotRec → DepotRec)

@[simp] theorem State.modDepot_pending : (s.modDepot d f).pending = s.pending := by unfold State.modDepot; split <;> rfl
@[simp] theorem State.modDepot_startUp : (s.modDepot d f).startUp = s.startUp := by unfold State.modDepot; split <;> rfl
@[simp] theorem State.modDepot_clock : (s.modDepot d f).clock = s.clock := by unfold State.modDepot; split <;> rfl
@[simp] theorem State.modDepot_due : (s.modDepot d f).due = s.due := by unfold State.modDepot; split <;> rfl
@[simp] theorem State.modDepot_routes : (s.modDepot d f).routes = s.routes := by unfold State.modDepot; split <;> rfl
@[simp] theorem State.modDepot_pallets : (s.modDepot d f).pallets = s.pallets := by unfold State.modDepot; split <;> rfl
@[simp] theorem State.modDepot_doors : (s.modDepot d f).doors = s.doors := by unfold State.modDepot; split <;> rfl
@[simp] theorem State.modDepot_trailers : (s.modDepot d f).trailers = s.trailers := by unfold State.modDepot; split <;> rfl
@[simp] theorem State.modDepot_lanes : (s.modDepot d f).lanes = s.lanes := by unfold State.modDepot; split <;> rfl
@[simp] theorem State.modDepot_census : (s.modDepot d f).census = s.census := by unfold State.modDepot; split <;> rfl
@[simp] theorem State.modDepot_classes : (s.modDepot d f).classes = s.classes := by unfold State.modDepot; split <;> rfl
@[simp] theorem State.modDepot_trucks : (s.modDepot d f).trucks = s.trucks := by unfold State.modDepot; split <;> rfl
@[simp] theorem State.modDepot_sched : (s.modDepot d f).sched = s.sched := by unfold State.modDepot; split <;> rfl
@[simp] theorem State.modDepot_floor : (s.modDepot d f).floor = s.floor := by unfold State.modDepot; split <;> rfl
@[simp] theorem State.modDepot_exceptions : (s.modDepot d f).exceptions = s.exceptions := by unfold State.modDepot; split <;> rfl
@[simp] theorem State.modDepot_link : (s.modDepot d f).link = s.link := by unfold State.modDepot; split <;> rfl

end

/-! ### `State.mark` and `State.unmark` -/

section
variable (s : State) (x : Subject)

@[simp] theorem State.mark_pending : (s.mark x).pending = s.pending := by unfold State.mark; split <;> rfl
@[simp] theorem State.mark_startUp : (s.mark x).startUp = s.startUp := by unfold State.mark; split <;> rfl
@[simp] theorem State.mark_clock : (s.mark x).clock = s.clock := by unfold State.mark; split <;> rfl
@[simp] theorem State.mark_due : (s.mark x).due = s.due := by unfold State.mark; split <;> rfl
@[simp] theorem State.mark_routes : (s.mark x).routes = s.routes := by unfold State.mark; split <;> rfl
@[simp] theorem State.mark_depots : (s.mark x).depots = s.depots := by unfold State.mark; split <;> rfl
@[simp] theorem State.mark_pallets : (s.mark x).pallets = s.pallets := by unfold State.mark; split <;> rfl
@[simp] theorem State.mark_doors : (s.mark x).doors = s.doors := by unfold State.mark; split <;> rfl
@[simp] theorem State.mark_trailers : (s.mark x).trailers = s.trailers := by unfold State.mark; split <;> rfl
@[simp] theorem State.mark_lanes : (s.mark x).lanes = s.lanes := by unfold State.mark; split <;> rfl
@[simp] theorem State.mark_census : (s.mark x).census = s.census := by unfold State.mark; split <;> rfl
@[simp] theorem State.mark_classes : (s.mark x).classes = s.classes := by unfold State.mark; split <;> rfl
@[simp] theorem State.mark_trucks : (s.mark x).trucks = s.trucks := by unfold State.mark; split <;> rfl
@[simp] theorem State.mark_sched : (s.mark x).sched = s.sched := by unfold State.mark; split <;> rfl
@[simp] theorem State.mark_floor : (s.mark x).floor = s.floor := by unfold State.mark; split <;> rfl
@[simp] theorem State.mark_exceptions : (s.mark x).exceptions = s.exceptions := by unfold State.mark; split <;> rfl
@[simp] theorem State.unmark_pending : (s.unmark x).pending = s.pending := rfl
@[simp] theorem State.unmark_startUp : (s.unmark x).startUp = s.startUp := rfl
@[simp] theorem State.unmark_clock : (s.unmark x).clock = s.clock := rfl
@[simp] theorem State.unmark_due : (s.unmark x).due = s.due := rfl
@[simp] theorem State.unmark_routes : (s.unmark x).routes = s.routes := rfl
@[simp] theorem State.unmark_depots : (s.unmark x).depots = s.depots := rfl
@[simp] theorem State.unmark_pallets : (s.unmark x).pallets = s.pallets := rfl
@[simp] theorem State.unmark_doors : (s.unmark x).doors = s.doors := rfl
@[simp] theorem State.unmark_trailers : (s.unmark x).trailers = s.trailers := rfl
@[simp] theorem State.unmark_lanes : (s.unmark x).lanes = s.lanes := rfl
@[simp] theorem State.unmark_census : (s.unmark x).census = s.census := rfl
@[simp] theorem State.unmark_classes : (s.unmark x).classes = s.classes := rfl
@[simp] theorem State.unmark_trucks : (s.unmark x).trucks = s.trucks := rfl
@[simp] theorem State.unmark_sched : (s.unmark x).sched = s.sched := rfl
@[simp] theorem State.unmark_floor : (s.unmark x).floor = s.floor := rfl
@[simp] theorem State.unmark_exceptions : (s.unmark x).exceptions = s.exceptions := rfl

end

/-! ### `State.raise` -/

section
variable (s : State) (k : ExcKind) (x : ExcSubject) (n : Nat)

@[simp] theorem State.raise_pending : (s.raise k x n).pending = s.pending := by simp [State.raise, State.setExceptions]
@[simp] theorem State.raise_startUp : (s.raise k x n).startUp = s.startUp := by simp [State.raise, State.setExceptions]
@[simp] theorem State.raise_clock : (s.raise k x n).clock = s.clock := by simp [State.raise, State.setExceptions]
@[simp] theorem State.raise_due : (s.raise k x n).due = s.due := by simp [State.raise, State.setExceptions]
@[simp] theorem State.raise_routes : (s.raise k x n).routes = s.routes := by simp [State.raise, State.setExceptions]
@[simp] theorem State.raise_depots : (s.raise k x n).depots = s.depots := by simp [State.raise, State.setExceptions]
@[simp] theorem State.raise_pallets : (s.raise k x n).pallets = s.pallets := by simp [State.raise, State.setExceptions]
@[simp] theorem State.raise_doors : (s.raise k x n).doors = s.doors := by simp [State.raise, State.setExceptions]
@[simp] theorem State.raise_trailers : (s.raise k x n).trailers = s.trailers := by simp [State.raise, State.setExceptions]
@[simp] theorem State.raise_lanes : (s.raise k x n).lanes = s.lanes := by simp [State.raise, State.setExceptions]
@[simp] theorem State.raise_census : (s.raise k x n).census = s.census := by simp [State.raise, State.setExceptions]
@[simp] theorem State.raise_classes : (s.raise k x n).classes = s.classes := by simp [State.raise, State.setExceptions]
@[simp] theorem State.raise_trucks : (s.raise k x n).trucks = s.trucks := by simp [State.raise, State.setExceptions]
@[simp] theorem State.raise_sched : (s.raise k x n).sched = s.sched := by simp [State.raise, State.setExceptions]
@[simp] theorem State.raise_floor : (s.raise k x n).floor = s.floor := by simp [State.raise, State.setExceptions]

end

/-! ### `State.answer` -/

section
variable (s : State) (t : Nat) (m : FloorMsg)

@[simp] theorem State.answer_pending : (s.answer t m).pending = s.pending := rfl
@[simp] theorem State.answer_startUp : (s.answer t m).startUp = s.startUp := rfl
@[simp] theorem State.answer_clock : (s.answer t m).clock = s.clock := rfl
@[simp] theorem State.answer_due : (s.answer t m).due = s.due := rfl
@[simp] theorem State.answer_routes : (s.answer t m).routes = s.routes := rfl
@[simp] theorem State.answer_depots : (s.answer t m).depots = s.depots := rfl
@[simp] theorem State.answer_pallets : (s.answer t m).pallets = s.pallets := rfl
@[simp] theorem State.answer_doors : (s.answer t m).doors = s.doors := rfl
@[simp] theorem State.answer_trailers : (s.answer t m).trailers = s.trailers := rfl
@[simp] theorem State.answer_lanes : (s.answer t m).lanes = s.lanes := rfl
@[simp] theorem State.answer_census : (s.answer t m).census = s.census := rfl
@[simp] theorem State.answer_classes : (s.answer t m).classes = s.classes := rfl
@[simp] theorem State.answer_trucks : (s.answer t m).trucks = s.trucks := rfl
@[simp] theorem State.answer_sched : (s.answer t m).sched = s.sched := rfl
@[simp] theorem State.answer_exceptions : (s.answer t m).exceptions = s.exceptions := rfl
@[simp] theorem State.answer_link : (s.answer t m).link = s.link := rfl

end

/-! ### `State.notify` -/

section
variable (s : State) (t : Nat) (m : FloorMsg)

@[simp] theorem State.notify_pending : (s.notify t m).pending = s.pending := rfl
@[simp] theorem State.notify_startUp : (s.notify t m).startUp = s.startUp := rfl
@[simp] theorem State.notify_clock : (s.notify t m).clock = s.clock := rfl
@[simp] theorem State.notify_due : (s.notify t m).due = s.due := rfl
@[simp] theorem State.notify_routes : (s.notify t m).routes = s.routes := rfl
@[simp] theorem State.notify_depots : (s.notify t m).depots = s.depots := rfl
@[simp] theorem State.notify_pallets : (s.notify t m).pallets = s.pallets := rfl
@[simp] theorem State.notify_doors : (s.notify t m).doors = s.doors := rfl
@[simp] theorem State.notify_trailers : (s.notify t m).trailers = s.trailers := rfl
@[simp] theorem State.notify_lanes : (s.notify t m).lanes = s.lanes := rfl
@[simp] theorem State.notify_census : (s.notify t m).census = s.census := rfl
@[simp] theorem State.notify_classes : (s.notify t m).classes = s.classes := rfl
@[simp] theorem State.notify_trucks : (s.notify t m).trucks = s.trucks := rfl
@[simp] theorem State.notify_sched : (s.notify t m).sched = s.sched := rfl
@[simp] theorem State.notify_exceptions : (s.notify t m).exceptions = s.exceptions := rfl
@[simp] theorem State.notify_link : (s.notify t m).link = s.link := rfl

end

/-! ### `State.orphanInstruct` -/

section
variable (s : State) (t : Nat)

@[simp] theorem State.orphanInstruct_pending : (s.orphanInstruct t).pending = s.pending := rfl
@[simp] theorem State.orphanInstruct_startUp : (s.orphanInstruct t).startUp = s.startUp := rfl
@[simp] theorem State.orphanInstruct_clock : (s.orphanInstruct t).clock = s.clock := rfl
@[simp] theorem State.orphanInstruct_due : (s.orphanInstruct t).due = s.due := rfl
@[simp] theorem State.orphanInstruct_routes : (s.orphanInstruct t).routes = s.routes := rfl
@[simp] theorem State.orphanInstruct_depots : (s.orphanInstruct t).depots = s.depots := rfl
@[simp] theorem State.orphanInstruct_pallets : (s.orphanInstruct t).pallets = s.pallets := rfl
@[simp] theorem State.orphanInstruct_doors : (s.orphanInstruct t).doors = s.doors := rfl
@[simp] theorem State.orphanInstruct_trailers : (s.orphanInstruct t).trailers = s.trailers := rfl
@[simp] theorem State.orphanInstruct_lanes : (s.orphanInstruct t).lanes = s.lanes := rfl
@[simp] theorem State.orphanInstruct_census : (s.orphanInstruct t).census = s.census := rfl
@[simp] theorem State.orphanInstruct_classes : (s.orphanInstruct t).classes = s.classes := rfl
@[simp] theorem State.orphanInstruct_trucks : (s.orphanInstruct t).trucks = s.trucks := rfl
@[simp] theorem State.orphanInstruct_sched : (s.orphanInstruct t).sched = s.sched := rfl
@[simp] theorem State.orphanInstruct_exceptions : (s.orphanInstruct t).exceptions = s.exceptions := rfl
@[simp] theorem State.orphanInstruct_link : (s.orphanInstruct t).link = s.link := rfl

end

/-! ### `State.clearTruckQueues` -/

section
variable (s : State) (t : Nat)

@[simp] theorem State.clearTruckQueues_pending : (s.clearTruckQueues t).pending = s.pending := rfl
@[simp] theorem State.clearTruckQueues_startUp : (s.clearTruckQueues t).startUp = s.startUp := rfl
@[simp] theorem State.clearTruckQueues_clock : (s.clearTruckQueues t).clock = s.clock := rfl
@[simp] theorem State.clearTruckQueues_due : (s.clearTruckQueues t).due = s.due := rfl
@[simp] theorem State.clearTruckQueues_routes : (s.clearTruckQueues t).routes = s.routes := rfl
@[simp] theorem State.clearTruckQueues_depots : (s.clearTruckQueues t).depots = s.depots := rfl
@[simp] theorem State.clearTruckQueues_pallets : (s.clearTruckQueues t).pallets = s.pallets := rfl
@[simp] theorem State.clearTruckQueues_doors : (s.clearTruckQueues t).doors = s.doors := rfl
@[simp] theorem State.clearTruckQueues_trailers : (s.clearTruckQueues t).trailers = s.trailers := rfl
@[simp] theorem State.clearTruckQueues_lanes : (s.clearTruckQueues t).lanes = s.lanes := rfl
@[simp] theorem State.clearTruckQueues_census : (s.clearTruckQueues t).census = s.census := rfl
@[simp] theorem State.clearTruckQueues_classes : (s.clearTruckQueues t).classes = s.classes := rfl
@[simp] theorem State.clearTruckQueues_trucks : (s.clearTruckQueues t).trucks = s.trucks := rfl
@[simp] theorem State.clearTruckQueues_sched : (s.clearTruckQueues t).sched = s.sched := rfl
@[simp] theorem State.clearTruckQueues_exceptions : (s.clearTruckQueues t).exceptions = s.exceptions := rfl
@[simp] theorem State.clearTruckQueues_link : (s.clearTruckQueues t).link = s.link := rfl

end

/-! ### The records themselves -/

@[simp] theorem State.door_modDoor (s : State) (d : Nat) (f : DoorRec → DoorRec) (h : d < 48) :
    (s.modDoor d f).door d = f (s.door d) := by simp [State.modDoor, State.door, h]

@[simp] theorem State.door_modDoor_of_ne (s : State) (d e : Nat) (f : DoorRec → DoorRec) (h : d ≠ e) :
    (s.modDoor d f).door e = s.door e := by simp [State.modDoor, State.door, h]

@[simp] theorem State.lane_modLane (s : State) (l : Nat) (f : LaneRec → LaneRec) (h : l < 96) :
    (s.modLane l f).lane l = f (s.lane l) := by simp [State.modLane, State.lane, h]

@[simp] theorem State.lane_modLane_of_ne (s : State) (l m : Nat) (f : LaneRec → LaneRec) (h : l ≠ m) :
    (s.modLane l f).lane m = s.lane m := by simp [State.modLane, State.lane, h]

@[simp] theorem State.truck_modTruck (s : State) (t : Nat) (f : TruckRec → TruckRec) (h : t < 32) :
    (s.modTruck t f).truck t = f (s.truck t) := by simp [State.modTruck, State.truck, h]

@[simp] theorem State.truck_modTruck_of_ne (s : State) (t u : Nat) (f : TruckRec → TruckRec) (h : t ≠ u) :
    (s.modTruck t f).truck u = s.truck u := by simp [State.modTruck, State.truck, h]

@[simp] theorem State.group_modGroup (s : State) (g : Nat) (f : GroupRec → GroupRec) (h : g < 4) :
    (s.modGroup g f).group g = f (s.group g) := by simp [State.modGroup, State.group, h]

@[simp] theorem State.group_modGroup_of_ne (s : State) (g k : Nat) (f : GroupRec → GroupRec) (h : g ≠ k) :
    (s.modGroup g f).group k = s.group k := by simp [State.modGroup, State.group, h]

/-- A depot's record after a change of its own record. -/
theorem State.depot_modDepot (s : State) (d : Nat) (f : DepotRec → DepotRec) (h : 1 ≤ d ∧ d ≤ 127) :
    (s.modDepot d f).depot d = f (s.depot d) := by
  have h0 : d ≠ 0 := by omega
  have h1 : d - 1 < 127 := by omega
  simp [State.modDepot, State.depot, h0, h1]

/-- A depot's record after a change of another's. -/
theorem State.depot_modDepot_of_ne (s : State) (d e : Nat) (f : DepotRec → DepotRec) (h : d ≠ e) :
    (s.modDepot d f).depot e = s.depot e := by
  unfold State.modDepot
  split
  · rfl
  · by_cases he : e = 0
    · simp [State.depot, he]
    · have : d - 1 ≠ e - 1 := by omega
      simp [State.depot, he, this]

/-! ### The report queue (R176) -/

/-- After a marking the subject stands in the queue, once if the queue holds no subject twice, and every other subject keeps its
place. -/
theorem State.mark_reports (s : State) (x : Subject) :
    (s.mark x).link.reports = if x ∈ s.link.reports then s.link.reports else s.link.reports ++ [x] := by
  unfold State.mark; split <;> simp_all

/-- A marking changes the report queue only. -/
theorem State.mark_link (s : State) (x : Subject) :
    (s.mark x).link = { s.link with reports := (s.mark x).link.reports } := by
  unfold State.mark; split <;> rfl

/-- A subject marked stands in the report queue. -/
theorem State.mem_mark (s : State) (x : Subject) : x ∈ (s.mark x).link.reports := by
  rw [State.mark_reports]; split <;> simp_all

/-- A marking takes no subject out of the report queue. -/
theorem State.mem_mark_of_mem {s : State} (x : Subject) {y : Subject} (h : y ∈ s.link.reports) : y ∈ (s.mark x).link.reports := by
  rw [State.mark_reports]; split
  · exact h
  · exact List.mem_append_left _ h

/-- A marking leaves a queue without repeats without repeats. -/
theorem State.mark_nodup (s : State) (x : Subject) (h : s.link.reports.Nodup) : (s.mark x).link.reports.Nodup := by
  rw [State.mark_reports]
  split
  · exact h
  · rename_i hx
    exact List.nodup_append.2 ⟨h, by simp, fun a ha b hb => by simp at hb; subst hb; exact fun e => hx (e ▸ ha)⟩

/-- Taking a subject out leaves a queue without repeats without repeats. -/
theorem State.unmark_nodup (s : State) (x : Subject) (h : s.link.reports.Nodup) : (s.unmark x).link.reports.Nodup :=
  h.filter _

end Machine
end Sys2Proof
end

