-- ==== Sys2Proof/Laws/Frames.lean ====
section
/-!
SUPPORT. What each shared operation can do, said once: the fields it leaves as they are, and the queues and lists it keeps sound.
Three classes of operation, each within the next: those of the lane store, those of the scheduler, and those of the door unit.
None of them touches the pallet table, the depot table, the clock or the command queues.
-/

namespace Sys2Proof.Machine

/-! ### The three classes -/

/-- What the door unit's operations leave alone. -/
structure DoorOnly (s s' : State) : Prop where
  pending  : s'.pending = s.pending
  startUp  : s'.startUp = s.startUp
  clock    : s'.clock = s.clock
  due      : s'.due = s.due
  routes   : s'.routes = s.routes
  depots   : s'.depots = s.depots
  pallets  : s'.pallets = s.pallets
  classes  : s'.classes = s.classes
  interval : s'.census.interval = s.census.interval
  groups   : s'.census.groups = s.census.groups
  timeout  : s'.census.timeout = s.census.timeout
  fleets   : s'.fleets = s.fleets
  rx       : s'.link.rx = s.link.rx
  receive  : s'.link.receive = s.link.receive
  slot     : s'.link.slot = s.link.slot
  sending  : s'.link.sending = s.link.sending
  discarded : s'.link.discarded = s.link.discarded
  overrun  : s'.link.overrun = s.link.overrun
  reports  : s.link.reports.Nodup → s'.link.reports.Nodup
  excs     : s.exceptions.Sound → s'.exceptions.Sound

/-- What the scheduler's operations on trucks and runs leave alone as well. -/
structure RunOnly (s s' : State) : Prop extends DoorOnly s s' where
  doors      : s'.doors = s.doors
  trailers   : s'.trailers = s.trailers
  exceptions : s'.exceptions = s.exceptions

/-- What the lane store's operations leave alone as well. -/
structure LaneOnly (s s' : State) : Prop extends RunOnly s s' where
  trucks : s'.trucks = s.trucks
  sched  : s'.sched = s.sched
  floor  : s'.floor = s.floor

theorem DoorOnly.refl (s : State) : DoorOnly s s := by constructor <;> first | rfl | exact id
theorem RunOnly.refl (s : State) : RunOnly s s := by
  constructor <;> first | exact DoorOnly.refl s | rfl
theorem LaneOnly.refl (s : State) : LaneOnly s s := by
  constructor <;> first | exact RunOnly.refl s | rfl

theorem DoorOnly.trans {a b c : State} (h : DoorOnly a b) (k : DoorOnly b c) : DoorOnly a c where
  pending := k.pending.trans h.pending
  startUp := k.startUp.trans h.startUp
  clock := k.clock.trans h.clock
  due := k.due.trans h.due
  routes := k.routes.trans h.routes
  depots := k.depots.trans h.depots
  pallets := k.pallets.trans h.pallets
  classes := k.classes.trans h.classes
  interval := k.interval.trans h.interval
  groups := k.groups.trans h.groups
  timeout := k.timeout.trans h.timeout
  fleets := k.fleets.trans h.fleets
  rx := k.rx.trans h.rx
  receive := k.receive.trans h.receive
  slot := k.slot.trans h.slot
  sending := k.sending.trans h.sending
  discarded := k.discarded.trans h.discarded
  overrun := k.overrun.trans h.overrun
  reports := fun r => k.reports (h.reports r)
  excs := fun r => k.excs (h.excs r)

theorem RunOnly.trans {a b c : State} (h : RunOnly a b) (k : RunOnly b c) : RunOnly a c where
  toDoorOnly := h.toDoorOnly.trans k.toDoorOnly
  doors := k.doors.trans h.doors
  trailers := k.trailers.trans h.trailers
  exceptions := k.exceptions.trans h.exceptions

theorem LaneOnly.trans {a b c : State} (h : LaneOnly a b) (k : LaneOnly b c) : LaneOnly a c where
  toRunOnly := h.toRunOnly.trans k.toRunOnly
  trucks := k.trucks.trans h.trucks
  sched := k.sched.trans h.sched
  floor := k.floor.trans h.floor

theorem DoorOnly.ite {c : Prop} [Decidable c] {s a b : State} (h : DoorOnly s a) (k : DoorOnly s b) :
    DoorOnly s (if c then a else b) := by split <;> assumption
theorem RunOnly.ite {c : Prop} [Decidable c] {s a b : State} (h : RunOnly s a) (k : RunOnly s b) :
    RunOnly s (if c then a else b) := by split <;> assumption
theorem LaneOnly.ite {c : Prop} [Decidable c] {s a b : State} (h : LaneOnly s a) (k : LaneOnly s b) :
    LaneOnly s (if c then a else b) := by split <;> assumption

theorem DoorOnly.foldl {f : State → α → State} (h : ∀ s a, DoorOnly s (f s a)) :
    ∀ (l : List α) (s : State), DoorOnly s (l.foldl f s)
  | [], s => DoorOnly.refl s
  | a :: l, s => (h s a).trans (DoorOnly.foldl h l (f s a))
theorem RunOnly.foldl {f : State → α → State} (h : ∀ s a, RunOnly s (f s a)) :
    ∀ (l : List α) (s : State), RunOnly s (l.foldl f s)
  | [], s => RunOnly.refl s
  | a :: l, s => (h s a).trans (RunOnly.foldl h l (f s a))
theorem LaneOnly.foldl {f : State → α → State} (h : ∀ s a, LaneOnly s (f s a)) :
    ∀ (l : List α) (s : State), LaneOnly s (l.foldl f s)
  | [], s => LaneOnly.refl s
  | a :: l, s => (h s a).trans (LaneOnly.foldl h l (f s a))

/-! ### The lane store -/

theorem State.mark_laneOnly (s : State) (x : Subject) : LaneOnly s (s.mark x) := by
  have h := State.mark_link s x
  constructor
  case toRunOnly =>
    constructor
    case toDoorOnly =>
      constructor
      case reports => exact State.mark_nodup s x
      case excs => simp
      case fleets => simp [State.fleets]
      all_goals first | simp | rw [h]
    all_goals simp
  all_goals simp

theorem State.modLane_laneOnly (s : State) (l : Nat) (f : LaneRec → LaneRec) : LaneOnly s (s.modLane l f) := by
  constructor
  case toRunOnly =>
    constructor
    case toDoorOnly => constructor <;> first | rfl | exact id
    all_goals rfl
  all_goals rfl

theorem State.modGroup_laneOnly (s : State) (g : Nat) (f : GroupRec → GroupRec) : LaneOnly s (s.modGroup g f) := by
  constructor
  case toRunOnly =>
    constructor
    case toDoorOnly => constructor <;> first | rfl | exact id
    all_goals rfl
  all_goals rfl

theorem State.touchLane_laneOnly (s : State) (l : Nat) (f : LaneRec → LaneRec) : LaneOnly s (s.touchLane l f) :=
  (s.modLane_laneOnly l _).trans (State.mark_laneOnly _ _)

theorem State.touchGroup_laneOnly (s : State) (g : Nat) (f : GroupRec → GroupRec) : LaneOnly s (s.touchGroup g f) :=
  (s.modGroup_laneOnly g _).trans (State.mark_laneOnly _ _)

theorem State.lockCheck_laneOnly (s : State) (g : Nat) : LaneOnly s (s.lockCheck g) :=
  .ite ((LaneOnly.foldl (fun s _ => s.touchLane_laneOnly _ _) _ s).trans (State.touchGroup_laneOnly _ _ _)) (.refl s)

theorem State.lockCheckLane_laneOnly (s : State) (l : Nat) : LaneOnly s (s.lockCheckLane l) :=
  .ite (s.lockCheck_laneOnly _) (.refl s)

theorem State.reserve_laneOnly (s : State) (l : Nat) : LaneOnly s (s.reserve l) := s.touchLane_laneOnly _ _

theorem State.unreserve_laneOnly (s : State) (l : Nat) : LaneOnly s (s.unreserve l) :=
  (s.touchLane_laneOnly _ _).trans (State.lockCheckLane_laneOnly _ _)

theorem State.confirmDrop_laneOnly (s : State) (l p : Nat) : LaneOnly s (s.confirmDrop l p) :=
  (s.touchLane_laneOnly _ _).trans (State.lockCheckLane_laneOnly _ _)

theorem State.recoverAppend_laneOnly (s : State) (l p : Nat) : LaneOnly s (s.recoverAppend l p) := s.touchLane_laneOnly _ _
theorem State.headTake_laneOnly (s : State) (l p : Nat) : LaneOnly s (s.headTake l p) := s.touchLane_laneOnly _ _
theorem State.bayTake_laneOnly (s : State) (l p : Nat) : LaneOnly s (s.bayTake l p) := s.touchLane_laneOnly _ _

theorem State.taskBack_laneOnly (s : State) (x : Location) : LaneOnly s (s.taskBack x) := by
  cases x
  · exact .refl s
  · exact (s.touchLane_laneOnly _ _).trans (State.lockCheckLane_laneOnly _ _)

theorem State.holdLane_laneOnly (s : State) (l t : Nat) : LaneOnly s (s.holdLane l t) := s.touchLane_laneOnly _ _

theorem State.releaseLane_laneOnly (s : State) (l t : Nat) : LaneOnly s (s.releaseLane l t) :=
  .ite ((s.touchLane_laneOnly _ _).trans (State.lockCheckLane_laneOnly _ _)) (.refl s)

theorem State.claimHead_laneOnly (s : State) (l t : Nat) : LaneOnly s (s.claimHead l t) := s.touchLane_laneOnly _ _
theorem State.stall_laneOnly (s : State) (l f : Nat) : LaneOnly s (s.stall l f) := s.touchLane_laneOnly _ _

theorem State.unstall_laneOnly (s : State) (f : Nat) : LaneOnly s (s.unstall f) :=
  .foldl (fun s _ => .ite (s.touchLane_laneOnly _ _) (.refl s)) _ s

theorem State.reopen_laneOnly (s : State) (l : Nat) (f : LaneRec → LaneRec) : LaneOnly s (s.reopen l f) :=
  s.touchLane_laneOnly _ _

theorem State.endCensus_laneOnly (s : State) (g : Nat) : LaneOnly s (s.endCensus g) := s.touchGroup_laneOnly _ _

theorem State.endCensusIfDone_laneOnly (s : State) (g : Nat) : LaneOnly s (s.endCensusIfDone g) :=
  .ite (.refl s) (s.endCensus_laneOnly g)

theorem State.armCensus_laneOnly (s : State) : LaneOnly s s.armCensus :=
  .ite (.refl s) (.foldl (fun s' _ => s'.modGroup_laneOnly _ _) _ s)

theorem State.disarmCensus_laneOnly (s : State) : LaneOnly s s.disarmCensus :=
  .foldl (fun s _ => s.modGroup_laneOnly _ _) _ s

/-! ### The floor channel's queues, trucks and runs -/

theorem State.modTruck_runOnly (s : State) (t : Nat) (f : TruckRec → TruckRec) : RunOnly s (s.modTruck t f) := by
  constructor
  case toDoorOnly => constructor <;> first | rfl | exact id
  all_goals rfl

/-- A change of the floor channel's own state. -/
theorem RunOnly.ofFloor (s : State) (x : Floor) : RunOnly s { s with floor := x } := by
  constructor
  case toDoorOnly => constructor <;> first | rfl | exact id
  all_goals rfl

/-- A change of the scheduler's queue, counter or settings. -/
theorem RunOnly.ofSched (s : State) (x : Scheduler) : RunOnly s { s with sched := x } := by
  constructor
  case toDoorOnly => constructor <;> first | rfl | exact id
  all_goals rfl

theorem State.mark_runOnly (s : State) (x : Subject) : RunOnly s (s.mark x) := (s.mark_laneOnly x).toRunOnly

theorem State.touchTruck_runOnly (s : State) (t : Nat) (f : TruckRec → TruckRec) : RunOnly s (s.touchTruck t f) :=
  (s.modTruck_runOnly t f).trans (State.mark_runOnly _ _)

theorem State.answer_runOnly (s : State) (t : Nat) (m : FloorMsg) : RunOnly s (s.answer t m) := .ofFloor s _
theorem State.instruct_runOnly (s : State) (t p : Nat) (x : Target) : RunOnly s (s.instruct t p x) := .ofFloor s _
theorem State.orphanInstruct_runOnly (s : State) (t : Nat) : RunOnly s (s.orphanInstruct t) := .ofFloor s _
theorem State.notify_runOnly (s : State) (t : Nat) (m : FloorMsg) : RunOnly s (s.notify t m) := .ofFloor s _
theorem State.dropOffer_runOnly (s : State) (t : Nat) : RunOnly s (s.dropOffer t) := .ofFloor s _
theorem State.clearTruckQueues_runOnly (s : State) (t : Nat) : RunOnly s (s.clearTruckQueues t) := .ofFloor s _

theorem State.joinFree_runOnly (s : State) (t : Nat) : RunOnly s (s.joinFree t) :=
  (s.touchTruck_runOnly t _).trans (.ite (.refl _) (.ofSched _ _))

theorem State.leaveFree_runOnly (s : State) (t : Nat) : RunOnly s (s.leaveFree t) := .ofSched s _
theorem State.orderNewFree_runOnly (s : State) (b : List Nat) : RunOnly s (s.orderNewFree b) := .ofSched s _

theorem State.releaseRunLane_runOnly (s : State) (t : Nat) (r : Option Run) : RunOnly s (s.releaseRunLane t r) := by
  unfold State.releaseRunLane
  split
  · exact (s.releaseLane_laneOnly _ _).toRunOnly
  · exact .refl s

theorem State.afterRun_runOnly (s : State) (t : Nat) (b : Bool) (a : AfterRun) : RunOnly s (s.afterRun t b a) := by
  cases a
  · exact .ite (s.touchTruck_runOnly _ _) (s.joinFree_runOnly _)
  · exact s.touchTruck_runOnly _ _

theorem State.endRun_runOnly (s : State) (t : Nat) (notice : Bool) (a : AfterRun) : RunOnly s (s.endRun t notice a) := by
  unfold State.endRun
  split
  · exact .refl s
  · exact (((s.touchTruck_runOnly _ _).trans (State.releaseRunLane_runOnly _ _ _)).trans
      (.ite (State.notify_runOnly _ _ _) (.refl _))).trans (State.afterRun_runOnly _ _ _ _)

theorem State.closeRun_runOnly (s : State) (t : Nat) : RunOnly s (s.closeRun t) :=
  .ite (s.touchTruck_runOnly _ _) (s.endRun_runOnly _ _ _)

theorem State.endOffer_runOnly (s : State) (t : Nat) : RunOnly s (s.endOffer t) :=
  (s.touchTruck_runOnly _ _).trans (State.releaseRunLane_runOnly _ _ _)

theorem State.withdraw_runOnly (s : State) (t : Nat) (b : Bool) : RunOnly s (s.withdraw t b) :=
  ((s.endOffer_runOnly t).trans (State.notify_runOnly _ t .runOver)).trans
    (State.afterRun_runOnly ((s.endOffer t).notify t .runOver) t b .freeOrBreak)

theorem State.stopRun_runOnly (s : State) (t : Nat) : RunOnly s (s.stopRun t) := by
  unfold State.stopRun
  split
  · exact s.withdraw_runOnly _ _
  · exact s.closeRun_runOnly _
  · exact .refl s

theorem State.leftUnloading_runOnly (s : State) (d : Nat) : RunOnly s (s.leftUnloading d) :=
  .foldl (fun s t => s.stopRun_runOnly t) _ s
theorem State.leftLoading_runOnly (s : State) (d : Nat) : RunOnly s (s.leftLoading d) :=
  .foldl (fun s t => s.stopRun_runOnly t) _ s
theorem State.laneInCensus_runOnly (s : State) (l : Nat) : RunOnly s (s.laneInCensus l) :=
  .foldl (fun s t => s.stopRun_runOnly t) _ s
theorem State.stopAllRuns_runOnly (s : State) : RunOnly s s.stopAllRuns :=
  .foldl (fun s t => s.stopRun_runOnly t) _ s

theorem State.freeTask_runOnly (s : State) (t : Nat) : RunOnly s (s.freeTask t) :=
  (s.touchTruck_runOnly _ _).trans (State.orphanInstruct_runOnly _ _)

theorem State.wake_runOnly (s : State) (t : Nat) : RunOnly s (s.wake t) := .ite (s.joinFree_runOnly t) (.refl s)

theorem State.startCensus_runOnly (s : State) (g : Nat) (ls : List Nat) : RunOnly s (s.startCensus g ls) :=
  (((s.touchGroup_laneOnly g _).trans (.foldl (fun s _ => s.touchLane_laneOnly _ _) _ _)).toRunOnly.trans
    (.foldl (fun s l => s.laneInCensus_runOnly l) _ _)).trans (State.lockCheck_laneOnly _ _).toRunOnly

theorem State.censusDue_runOnly (s : State) (g : Nat) : RunOnly s (s.censusDue g) :=
  (s.modGroup_laneOnly g _).toRunOnly.trans (.ite (State.startCensus_runOnly _ _ _) (.refl _))

end Sys2Proof.Machine
end

