-- ==== Sys2Proof/Laws/Exceptions.lean ====
section
/-!
SUPPORT. Raising an exception (R162, R163): what the list holds afterwards, and that a sound list stays sound.
-/

namespace Sys2Proof.Machine

/-- Coalescing changes no entry's key. -/
@[simp] theorem ExcEntry.again_key (e : ExcEntry) (n : Nat) (v : Bool) (d : Nat) : (e.again n v d).key = e.key := rfl

@[simp] theorem ExcEntry.again_kind (e : ExcEntry) (n : Nat) (v : Bool) (d : Nat) : (e.again n v d).kind = e.kind := rfl

@[simp] theorem ExcEntry.again_subject (e : ExcEntry) (n : Nat) (v : Bool) (d : Nat) : (e.again n v d).subject = e.subject := rfl

theorem ExcEntry.hasKey_iff (e : ExcEntry) (k : ExcKind) (x : ExcSubject) : e.hasKey k x = true ↔ e.key = (k, x) := by
  simp [ExcEntry.hasKey, ExcEntry.key]

/-- Coalescing into the entries that satisfy a test changes no key. -/
theorem coalesce_keys (p : ExcEntry → Bool) (n : Nat) (v : Bool) (d : Nat) (l : List ExcEntry) :
    (l.map (fun e => if p e then e.again n v d else e)).map ExcEntry.key = l.map ExcEntry.key := by
  rw [List.map_map]
  apply List.map_congr_left
  intro e _
  simp only [Function.comp]
  split <;> rfl

/-- Coalescing leaves the number of ordinary entries as it was. -/
theorem coalesce_ordinary (p : ExcEntry → Bool) (n : Nat) (v : Bool) (d : Nat) (l : List ExcEntry) (c c' : Nat) :
    (ExcList.mk (l.map (fun e => if p e then e.again n v d else e)) c).ordinary = (ExcList.mk l c').ordinary := by
  simp only [ExcList.ordinary, List.filter_map, List.length_map]
  congr 1
  apply List.filter_congr
  intro e _
  simp only [Function.comp]
  split <;> rfl

theorem ExcList.Sound.coalesce {l : ExcList} (h : l.Sound) (p : ExcEntry → Bool) (n : Nat) (v : Bool) (d c : Nat)
    (hc : c ≤ 65535) : (ExcList.mk (l.entries.map (fun e => if p e then e.again n v d else e)) c).Sound where
  keys := by rw [coalesce_keys]; exact h.keys
  overflow := by
    intro e he hk
    obtain ⟨a, ha, rfl⟩ := List.mem_map.1 he
    have := h.overflow a ha
    split at hk <;> split <;> simp_all
  ordinary := by rw [coalesce_ordinary p n v d l.entries c l.changes]; exact h.ordinary
  counts := by
    intro e he
    obtain ⟨a, ha, rfl⟩ := List.mem_map.1 he
    have := h.counts a ha
    split
    · simp only [ExcEntry.again]; omega
    · exact this
  changes := hc

/-- A new entry at the end of the list: its key is new, and an ordinary one finds fewer than 63 ordinary entries. -/
theorem ExcList.Sound.append {l : ExcList} (h : l.Sound) (e : ExcEntry) (c : Nat) (hc : c ≤ 65535)
    (hkey : e.key ∉ l.entries.map ExcEntry.key) (hone : e.count = 1) (hsub : e.kind = .listOverflow → e.subject = .none)
    (hord : e.kind ≠ .listOverflow → l.ordinary < 63) : (ExcList.mk (l.entries ++ [e]) c).Sound where
  keys := by
    rw [List.map_append]
    exact List.nodup_append.2 ⟨h.keys, by simp, fun a ha b hb => by simp at hb; subst hb; exact fun e => hkey (e ▸ ha)⟩
  overflow := by
    intro x hx
    rcases List.mem_append.1 hx with hx | hx
    · exact h.overflow x hx
    · simp at hx; subst hx; exact hsub
  ordinary := by
    have := h.ordinary
    unfold ExcList.ordinary at *
    simp only [List.filter_append, List.length_append]
    by_cases hk : e.kind = .listOverflow
    · simpa [hk] using this
    · have := hord hk
      simp [hk] at *
      omega
  counts := by
    intro x hx
    rcases List.mem_append.1 hx with hx | hx
    · exact h.counts x hx
    · simp at hx; subst hx; omega
  changes := hc

/-- The entries after a raising of an ordinary kind are those of a sound list (R162, R163). -/
theorem ExcList.Sound.raised {l : ExcList} (h : l.Sound) (k : ExcKind) (x : ExcSubject) (n : Nat) (v : Bool) (d c : Nat)
    (hk : k ≠ .listOverflow) (hc : c ≤ 65535) : (ExcList.mk (l.raised k x n v d) c).Sound := by
  have fresh : ∀ k x, ¬ (l.entries.any (·.hasKey k x) = true) → (k, x) ∉ l.entries.map ExcEntry.key := by
    intro k x hn hm
    obtain ⟨e, he, hek⟩ := List.mem_map.1 hm
    exact hn (List.any_eq_true.2 ⟨e, he, (e.hasKey_iff k x).2 hek⟩)
  unfold ExcList.raised
  split
  · exact h.coalesce _ _ _ _ _ hc
  · rename_i hnew
    split
    · rename_i hlt
      exact h.append _ _ hc (fresh k x hnew) rfl (fun e => absurd e hk) (fun _ => by simpa [Config.maxOrdinary] using hlt)
    · split
      · exact h.coalesce _ _ _ _ _ hc
      · rename_i hno
        exact h.append _ _ hc (fresh _ _ hno) rfl (fun _ => rfl) (fun e => absurd rfl e)

theorem State.setExceptions_doorOnly (s : State) (es : List ExcEntry)
    (h : s.exceptions.Sound → (ExcList.mk es ((s.exceptions.changes + 1) % 65536)).Sound) : DoorOnly s (s.setExceptions es) := by
  refine DoorOnly.trans (b := { s with exceptions := { entries := es, changes := (s.exceptions.changes + 1) % 65536 } }) ?_
    (State.mark_laneOnly _ _).toDoorOnly
  constructor <;> first | exact h | rfl | exact id

/-- A raising changes the exception list and the report queue, and keeps both sound. -/
theorem State.raise_doorOnly (s : State) (k : ExcKind) (x : ExcSubject) (d : Nat) (hk : k ≠ .listOverflow := by decide) :
    DoorOnly s (s.raise k x d) :=
  s.setExceptions_doorOnly _ (fun h => h.raised k x _ _ _ _ hk (by omega))

/-- The exceptions of a record's creation change the exception list and the report queue only (R18, R32). -/
theorem State.raiseLabel_doorOnly (s : State) (id : Nat) (l : Label) : DoorOnly s (s.raiseLabel id l) := by
  have h : DoorOnly s (if labelSaturation l = 0 then s else s.raise .saturatedLabel (.pallet id) (labelSaturation l)) :=
    .ite (.refl s) (s.raise_doorOnly _ _ _)
  exact .ite h (h.trans (State.raise_doorOnly _ _ _ _))

/-- So do those of the accepted entries of one Manifest (R164). -/
theorem State.raiseLabels_doorOnly (s : State) (entries : List ManifestEntry) : DoorOnly s (s.raiseLabels entries) :=
  .foldl (fun s (e : ManifestEntry) => s.raiseLabel_doorOnly e.id e.label) _ s

end Sys2Proof.Machine
end

