-- ==== Sys2Proof/Laws/DoorUnit.lean ====
section
/-!
SUPPORT. What the door unit's, the planner's and the pairing's shared operations can do: each lies within `DoorOnly`, and a
pairing within `RunOnly`.
-/

namespace Sys2Proof.Machine

/-! ### Door and trailer records -/

theorem State.modDoor_doorOnly (s : State) (d : Nat) (f : DoorRec → DoorRec) : DoorOnly s (s.modDoor d f) := by
  constructor <;> first | rfl | exact id

theorem State.touchDoor_doorOnly (s : State) (d : Nat) (f : DoorRec → DoorRec) : DoorOnly s (s.touchDoor d f) :=
  (s.modDoor_doorOnly d f).trans (State.mark_laneOnly _ _).toDoorOnly

/-- A change of a trailer record that keeps its fleet number. -/
theorem State.modTrailer_doorOnly (s : State) (x : Nat) (f : TrailerRec → TrailerRec)
    (hf : ∀ t, (f t).fleet = t.fleet := by intro; rfl) : DoorOnly s (s.modTrailer x f) := by
  constructor
  case fleets =>
    simp only [State.fleets, State.modTrailer, List.map_map]
    apply List.map_congr_left
    intro t _
    simp only [Function.comp]
    split
    · exact hf t
    · rfl
  all_goals first | rfl | exact id

theorem State.touchTrailer_doorOnly (s : State) (x : Nat) (f : TrailerRec → TrailerRec)
    (hf : ∀ t, (f t).fleet = t.fleet := by intro; rfl) : DoorOnly s (s.touchTrailer x f) :=
  (s.modTrailer_doorOnly x f hf).trans (State.mark_laneOnly _ _).toDoorOnly

/-! ### Trailers at their doors -/

theorem State.modPlan_doorOnly (s : State) (d : Nat) (f : Plan → Plan) : DoorOnly s (s.modPlan d f) := by
  unfold State.modPlan
  split
  · exact .refl s
  · exact s.modDoor_doorOnly _ _

theorem State.freezeBuffer_doorOnly (s : State) (d : Nat) : DoorOnly s (s.freezeBuffer d) := by
  unfold State.freezeBuffer
  split
  · exact .refl s
  · exact s.modDoor_doorOnly _ _

theorem State.sealConditions_doorOnly (s : State) (d f : Nat) : DoorOnly s (s.sealConditions d f) := by
  unfold State.sealConditions
  split
  · exact .refl s
  · exact (s.modPlan_doorOnly _ _).trans (.ite (.refl _) (State.raise_doorOnly _ _ _ _))

theorem State.sealCheck_doorOnly (s : State) (f : Nat) : DoorOnly s (s.sealCheck f) := by
  unfold State.sealCheck
  split
  · exact .ite ((s.touchTrailer_doorOnly _ _).trans (State.sealConditions_doorOnly _ _ _)) (.refl s)
  · exact .refl s

theorem State.sealCheckDoor_doorOnly (s : State) (d : Nat) : DoorOnly s (s.sealCheckDoor d) := by
  unfold State.sealCheckDoor
  split
  · exact s.sealCheck_doorOnly _
  · exact .refl s

theorem State.targetEnded_doorOnly (s : State) (x : Target) : DoorOnly s (s.targetEnded x) := by
  cases x
  · exact .refl s
  · exact s.sealCheckDoor_doorOnly _

theorem State.becomeClosing_doorOnly (s : State) (f : Nat) : DoorOnly s (s.becomeClosing f) := by
  unfold State.becomeClosing
  split
  · exact (((s.touchTrailer_doorOnly _ _).trans (State.modPlan_doorOnly _ _ _)).trans
      (State.leftLoading_runOnly _ _).toDoorOnly).trans (State.sealCheck_doorOnly _ _)
  · exact .refl s

theorem State.closeIfExhausted_doorOnly (s : State) (d : Nat) : DoorOnly s (s.closeIfExhausted d) := by
  unfold State.closeIfExhausted
  split
  · exact .ite (s.becomeClosing_doorOnly _) (.refl s)
  · exact .refl s

theorem State.switchPlan_doorOnly (s : State) (d : Nat) : DoorOnly s (s.switchPlan d) := by
  unfold State.switchPlan
  split
  · exact .ite (((s.modPlan_doorOnly _ _).trans (State.unstall_laneOnly _ _).toDoorOnly).trans
      (State.closeIfExhausted_doorOnly _ _)) (.refl s)
  · exact .refl s

theorem State.switchNotice_doorOnly (s : State) (f : Nat) : DoorOnly s (s.switchNotice f) := by
  unfold State.switchNotice
  split
  · exact .ite (s.switchPlan_doorOnly _) (.refl s)
  · exact .refl s

theorem State.closeLoading_doorOnly (s : State) (f : Nat) : DoorOnly s (s.closeLoading f) := by
  unfold State.closeLoading
  split
  · exact s.closeIfExhausted_doorOnly _
  · exact .refl s

theorem State.trailerExhausted_doorOnly (s : State) (d f : Nat) : DoorOnly s (s.trailerExhausted d f) := by
  unfold State.trailerExhausted
  split
  · split
    · exact .refl s
    · exact .ite (s.switchPlan_doorOnly _) (.ite (s.closeLoading_doorOnly _) (.refl s))
  · exact .refl s

theorem State.exhaustedNotice_doorOnly (s : State) (d : Nat) : DoorOnly s (s.exhaustedNotice d) :=
  .foldl (fun s f => s.trailerExhausted_doorOnly d f) _ s

theorem State.plannerLoading_doorOnly (s : State) (d : Nat) : DoorOnly s (s.plannerLoading d) := by
  unfold State.plannerLoading
  dsimp only
  refine (s.modPlan_doorOnly d (fun p => { p with loading := true })).trans ?_
  split
  · exact .ite (State.switchPlan_doorOnly _ _) (.refl _)
  · exact .refl _

theorem State.switchIfReached_doorOnly (s : State) (f : Nat) : DoorOnly s (s.switchIfReached f) := by
  unfold State.switchIfReached
  split
  · exact .ite (s.switchNotice_doorOnly _) (.refl s)
  · exact .refl s

theorem State.readyToLoading_doorOnly (s : State) (f : Nat) : DoorOnly s (s.readyToLoading f) := by
  unfold State.readyToLoading
  split
  · refine .ite ?_ (.refl s)
    dsimp only
    refine DoorOnly.trans (DoorOnly.trans ?_ (State.closeIfExhausted_doorOnly _ _)) (State.switchIfReached_doorOnly _ _)
    refine DoorOnly.trans ?_ (.ite (State.becomeClosing_doorOnly _ f) (.refl _))
    refine DoorOnly.trans ?_ (.ite (State.becomeClosing_doorOnly _ f) (.refl _))
    exact DoorOnly.trans (s.touchTrailer_doorOnly f _) (State.plannerLoading_doorOnly _ _)
  · exact .refl s

/-! ### The target decision (R138) -/

theorem State.selectBay_doorOnly (s : State) (p : Nat) (o : Option Nat) : DoorOnly s (s.selectBay p o).2 := by
  unfold State.selectBay
  split
  · dsimp only
    split
    · exact (s.reserve_laneOnly _).toDoorOnly.trans (State.raise_doorOnly _ _ _ _)
    · exact (s.reserve_laneOnly _).toDoorOnly
  · exact s.raise_doorOnly _ _ _

theorem State.selectStaging_doorOnly (s : State) (r : PalletRec) : DoorOnly s (s.selectStaging r).2 := by
  unfold State.selectStaging
  split
  · exact (s.reserve_laneOnly _).toDoorOnly
  · exact s.selectBay_doorOnly _ _

theorem State.placementRefused_doorOnly (s : State) (d : Nat) (r : Reason) : DoorOnly s (s.placementRefused d r) := by
  unfold State.placementRefused
  split
  · split
    · exact s.becomeClosing_doorOnly _
    · exact .refl s
  · exact .refl s

theorem State.tryDirect_doorOnly (r : PalletRec) : ∀ (l : List Nat) (s : State), DoorOnly s (State.tryDirect r l s).2
  | [], s => .refl s
  | d :: l, s => by
    unfold State.tryDirect
    split
    · exact s.modPlan_doorOnly _ _
    · exact (s.placementRefused_doorOnly _ _).trans (State.tryDirect_doorOnly r l _)

theorem State.decideTarget_doorOnly (s : State) (r : PalletRec) (x : Option Nat) : DoorOnly s (s.decideTarget r x).2 := by
  unfold State.decideTarget
  split
  · exact s.selectBay_doorOnly _ _
  · have h : DoorOnly s (if s.loadPhase then State.tryDirect r (s.directDoors r.dest x) s else (none, s)).2 := by
      split
      · exact State.tryDirect_doorOnly _ _ _
      · exact .refl s
    revert h
    generalize (if s.loadPhase then State.tryDirect r (s.directDoors r.dest x) s else (none, s)) = y
    intro h
    rcases y with ⟨_ | t, s'⟩
    · exact h.trans (s'.selectStaging_doorOnly r)
    · exact h

/-! ### Doors -/

theorem State.callCheck_doorOnly (s : State) (d : Nat) : DoorOnly s (s.callCheck d) := by
  unfold State.callCheck
  split
  · split
    · exact (s.touchDoor_doorOnly _ _).trans (State.touchTrailer_doorOnly _ _ _)
    · exact .refl s
  · exact .refl s

theorem State.freeDoor_doorOnly (s : State) (d : Nat) : DoorOnly s (s.freeDoor d) :=
  (s.touchDoor_doorOnly _ _).trans (State.callCheck_doorOnly _ _)

theorem State.leaveQueue_doorOnly (s : State) (t : TrailerRec) : DoorOnly s (s.leaveQueue t) := by
  unfold State.leaveQueue
  split
  · exact s.touchDoor_doorOnly _ _
  · exact .refl s

theorem State.endOtherCall_doorOnly (s : State) (d : Nat) (t : TrailerRec) : DoorOnly s (s.endOtherCall d t) := by
  unfold State.endOtherCall
  split
  · exact s.leaveQueue_doorOnly _
  · exact .ite (.refl s) (.ite (s.freeDoor_doorOnly _) (s.touchDoor_doorOnly _ _))
  · exact .refl s

theorem State.displace_doorOnly (s : State) (d f : Nat) : DoorOnly s (s.displace d f) := by
  unfold State.displace
  split
  · exact .ite (.refl s) ((s.touchDoor_doorOnly _ _).trans (State.touchTrailer_doorOnly _ _ _))
  · exact .refl s

theorem State.checkDoor_doorOnly (s : State) (d : Nat) (t : TrailerRec) : DoorOnly s (s.checkDoor d t) :=
  .ite (.refl s) (s.raise_doorOnly _ _ _)

theorem State.giveBuffer_doorOnly (s : State) (d : Nat) (t : TrailerRec) : DoorOnly s (s.giveBuffer d t) :=
  ((DoorOnly.foldl (fun s _ => s.touchTrailer_doorOnly _ _) _ s).trans (State.touchDoor_doorOnly _ _ _)).trans
    (State.touchTrailer_doorOnly _ _ _)

theorem State.bindTrailer_doorOnly (s : State) (d f : Nat) : DoorOnly s (s.bindTrailer d f) := by
  unfold State.bindTrailer
  split
  · exact .refl s
  · rename_i t _
    dsimp only
    refine DoorOnly.trans ?_ (State.readyToLoading_doorOnly _ f)
    refine DoorOnly.trans ?_ (.ite (.refl _) (State.giveBuffer_doorOnly _ d t))
    refine DoorOnly.trans (DoorOnly.trans ?_ (State.touchDoor_doorOnly _ d _)) (State.touchTrailer_doorOnly _ f _)
    exact ((s.endOtherCall_doorOnly d t).trans (State.displace_doorOnly _ d f)).trans (State.checkDoor_doorOnly _ d t)

theorem State.departureNotice_doorOnly (s : State) (d f : Nat) : DoorOnly s (s.departureNotice d f) :=
  ((s.leftUnloading_runOnly d).toDoorOnly.trans (State.leftLoading_runOnly _ _).toDoorOnly).trans
    (State.unstall_laneOnly _ _).toDoorOnly

theorem State.depart_doorOnly (s : State) (d f : Nat) : DoorOnly s (s.depart d f) :=
  (((s.touchTrailer_doorOnly _ _).trans (State.departureNotice_doorOnly _ _ _)).trans
    (State.freezeBuffer_doorOnly _ _)).trans (State.freeDoor_doorOnly _ _)

theorem State.linePresent_doorOnly (s : State) (d : Nat) : DoorOnly s (s.linePresent d) := by
  unfold State.linePresent
  split
  · exact s.touchDoor_doorOnly _ _
  · exact s.touchDoor_doorOnly _ _
  · exact .refl s

theorem State.surveyDoor_doorOnly (s : State) (d : Nat) : DoorOnly s (s.surveyDoor d) :=
  (s.mark_laneOnly _).toDoorOnly.trans (.ite (State.modDoor_doorOnly _ _ _) (.refl _))

theorem State.readyAll_doorOnly (s : State) : DoorOnly s s.readyAll := .foldl State.readyToLoading_doorOnly _ s

/-! ### Pairing (R129 to R131) -/

theorem State.offer_runOnly (s : State) (t : Nat) (d : Demand) : RunOnly s (s.offer t d) := by
  unfold State.offer
  dsimp only
  refine RunOnly.trans ?_ (State.notify_runOnly _ t _)
  have h (f) : RunOnly s ((s.leaveFree t).touchTruck t f) := (s.leaveFree_runOnly t).trans (State.touchTruck_runOnly _ t f)
  split
  · exact (h _).trans (State.holdLane_laneOnly _ _ _).toRunOnly
  · exact h _

theorem State.pairOne_runOnly (s s' : State) (h : s.pairOne = some s') : RunOnly s s' := by
  unfold State.pairOne at h
  split at h
  · split at h
    · cases h
    · split at h
      · split at h
        · cases h
        · cases h
          exact RunOnly.trans (.ite (.ofSched _ _) (.refl _)) (State.offer_runOnly _ _ _)
      · cases h
  · cases h

theorem State.pairUpTo_runOnly : ∀ (n : Nat) (s : State), RunOnly s (s.pairUpTo n)
  | 0, s => .refl s
  | n + 1, s => by
    unfold State.pairUpTo
    split
    · rename_i s' h
      exact (s.pairOne_runOnly s' h).trans (State.pairUpTo_runOnly n s')
    · exact .refl s

theorem State.pair_runOnly (s : State) : RunOnly s s.pair := s.pairUpTo_runOnly _

end Sys2Proof.Machine
end

