-- ==== Sys2Proof/Laws/Commands.lean ====
section
/-!
SUPPORT. What the steps around a command's own effect can do: how the interpreter takes a command and its reply leaves, what the
station transmitter's choice changes, and what follows an event in the same step.
-/

namespace Sys2Proof.Machine

/-! ### The station transmitter's choice (R177): only the link changes -/

section
variable (s : State)

/-- The transmitter's choice changes nothing but the link. -/
theorem State.chooseFrame_eq : ∃ l, s.chooseFrame = { s with link := l } := by
  unfold State.chooseFrame
  split
  · exact ⟨s.link, rfl⟩
  · split
    · exact ⟨_, rfl⟩
    · exact ⟨_, rfl⟩
    · exact ⟨s.link, rfl⟩

@[simp] theorem State.chooseFrame_pending : s.chooseFrame.pending = s.pending := by
  obtain ⟨l, h⟩ := s.chooseFrame_eq; rw [h]
@[simp] theorem State.chooseFrame_startUp : s.chooseFrame.startUp = s.startUp := by
  obtain ⟨l, h⟩ := s.chooseFrame_eq; rw [h]
@[simp] theorem State.chooseFrame_clock : s.chooseFrame.clock = s.clock := by
  obtain ⟨l, h⟩ := s.chooseFrame_eq; rw [h]
@[simp] theorem State.chooseFrame_due : s.chooseFrame.due = s.due := by
  obtain ⟨l, h⟩ := s.chooseFrame_eq; rw [h]
@[simp] theorem State.chooseFrame_routes : s.chooseFrame.routes = s.routes := by
  obtain ⟨l, h⟩ := s.chooseFrame_eq; rw [h]
@[simp] theorem State.chooseFrame_depots : s.chooseFrame.depots = s.depots := by
  obtain ⟨l, h⟩ := s.chooseFrame_eq; rw [h]
@[simp] theorem State.chooseFrame_pallets : s.chooseFrame.pallets = s.pallets := by
  obtain ⟨l, h⟩ := s.chooseFrame_eq; rw [h]
@[simp] theorem State.chooseFrame_doors : s.chooseFrame.doors = s.doors := by
  obtain ⟨l, h⟩ := s.chooseFrame_eq; rw [h]
@[simp] theorem State.chooseFrame_trailers : s.chooseFrame.trailers = s.trailers := by
  obtain ⟨l, h⟩ := s.chooseFrame_eq; rw [h]
@[simp] theorem State.chooseFrame_lanes : s.chooseFrame.lanes = s.lanes := by
  obtain ⟨l, h⟩ := s.chooseFrame_eq; rw [h]
@[simp] theorem State.chooseFrame_census : s.chooseFrame.census = s.census := by
  obtain ⟨l, h⟩ := s.chooseFrame_eq; rw [h]
@[simp] theorem State.chooseFrame_classes : s.chooseFrame.classes = s.classes := by
  obtain ⟨l, h⟩ := s.chooseFrame_eq; rw [h]
@[simp] theorem State.chooseFrame_trucks : s.chooseFrame.trucks = s.trucks := by
  obtain ⟨l, h⟩ := s.chooseFrame_eq; rw [h]
@[simp] theorem State.chooseFrame_sched : s.chooseFrame.sched = s.sched := by
  obtain ⟨l, h⟩ := s.chooseFrame_eq; rw [h]
@[simp] theorem State.chooseFrame_floor : s.chooseFrame.floor = s.floor := by
  obtain ⟨l, h⟩ := s.chooseFrame_eq; rw [h]
@[simp] theorem State.chooseFrame_exceptions : s.chooseFrame.exceptions = s.exceptions := by
  obtain ⟨l, h⟩ := s.chooseFrame_eq; rw [h]

/-- The choice never changes the receive queue. -/
@[simp] theorem State.chooseFrame_receive : s.chooseFrame.link.receive = s.link.receive := by
  unfold State.chooseFrame
  split
  · rfl
  · split <;> rfl

/-- While a frame is being sent nothing is chosen. -/
theorem State.chooseFrame_of_sending (h : s.link.sending.isSome = true) : s.chooseFrame = s := by
  simp [State.chooseFrame, h]

end

/-! ### The interpreter (R172, R173) -/

/-- The three conditions of a command that the interpreter takes at once. -/
theorem State.takes_iff (s : State) (c : Instr) :
    s.takes c = true ↔ s.startUp.resetHeld = false ∧ s.link.slot = none ∧ s.link.receive = [] := by
  simp [State.takes, State.live, and_assoc]

theorem State.takesAtOnce_iff (s : State) : s.takesAtOnce = true ↔ s.link.slot = none ∧ s.link.receive = [] := by
  simp [State.takesAtOnce]

/-- When the interpreter takes a command, its rule's answer fills the slot, and the transmitter chooses. -/
theorem State.interpret_of_takes (s : State) (c : Instr) (kind : Nat) (tag : Byte) (rule : State → Answer)
    (h : s.takes c = true) : s.interpret c kind tag rule = ((rule s).reply kind tag).frameEnds.chooseFrame := by
  obtain ⟨live, rest⟩ := (s.takes_iff c).mp h
  simp [State.interpret, live, s.takesAtOnce_iff.mpr rest]

/-- While the pin is free and the interpreter does not take a command, its frame is offered to the receive queue. -/
theorem State.interpret_of_waits (s : State) (c : Instr) (f : Frame) (kind : Nat) (tag : Byte) (rule : State → Answer)
    (live : s.live = true) (h : s.takes c = false) (hf : c.frame? = some f) :
    s.interpret c kind tag rule = (s.offerFrame f).frameEnds := by
  have free : s.startUp.resetHeld = false := by simpa [State.live] using live
  have waits : s.takesAtOnce = false := by simpa [State.takes, State.takesAtOnce, live] using h
  simp [State.interpret, free, waits, hf]

/-- A rule that leaves the state as it found it, a query's or a refusal's, leaves the reply alone. -/
theorem State.interpret_unchanged (s : State) (c : Instr) (kind : Nat) (tag : Byte) (rule : State → Answer) (r : Result)
    (fields : List Byte) (h : s.takes c = true) (hr : rule s = ⟨s, r, fields⟩) :
    s.interpret c kind tag rule = s.replied (BitVec.ofNat 8 kind) tag r fields := by
  obtain ⟨-, slot, queue⟩ := (s.takes_iff c).mp h
  rw [s.interpret_of_takes c kind tag rule h, hr]
  unfold State.replied Link.replying Answer.reply State.frameEnds State.chooseFrame
  cases sending : s.link.sending with
  | some o => simp [sending, queue]
  | none =>
    simp [sending, Link.beginReply, Link.clearCarried, Link.replyFrame, Link.statusByte, flagBits, Config.maxFrames, queue]
    exact slot.symm

/-! ### Fields of replies (§10.6) -/

theorem u8_eq_beBytes (n : Nat) : u8 n = beBytes 1 n := by simp [u8, beBytes]
theorem u16_eq_beBytes (n : Nat) : u16 n = beBytes 2 n := by simp [u16, beBytes]
theorem u24_eq_beBytes (n : Nat) : u24 n = beBytes 3 n := by simp [u24, beBytes]
theorem u32_eq_beBytes (n : Nat) : u32 n = beBytes 4 n := by simp [u32, beBytes]
theorem emit_nil : emit [] = [] := rfl
theorem emit_cons (w n : Nat) (fs : List (Nat × Nat)) : emit ((w, n) :: fs) = beBytes w n ++ emit fs := by simp [emit]
theorem emit_append (fs gs : List (Nat × Nat)) : emit (fs ++ gs) = emit fs ++ emit gs := by simp [emit]
theorem emit_map (l : List α) (f : α → Nat × Nat) : emit (l.map f) = l.flatMap (fun a => beBytes (f a).1 (f a).2) := by
  simp [emit, List.flatMap_map]
theorem emit_flatMap (l : List α) (f : α → List (Nat × Nat)) : emit (l.flatMap f) = l.flatMap (fun a => emit (f a)) := by
  simp [emit, List.flatMap_assoc]
@[simp] theorem beBytes_length (w n : Nat) : (beBytes w n).length = w := by
  induction w with
  | zero => rfl
  | succ w ih => simp [beBytes, ih]

/-! ### What follows an event in the same step -/

/-- The floor transmitter's look changes nothing but the floor channel. -/
theorem State.floorReady_eq (s : State) : s.floorReady = { s with floor := s.floor.applyRate.keyUp } := rfl

theorem State.floorReady_runOnly (s : State) : RunOnly s s.floorReady := .ofFloor s _

/-- The rate and the key-up leave both queues as they are. -/
@[simp] theorem Floor.applyRate_replies (f : Floor) : f.applyRate.replies = f.replies := by
  unfold Floor.applyRate; split <;> rfl
@[simp] theorem Floor.applyRate_notices (f : Floor) : f.applyRate.notices = f.notices := by
  unfold Floor.applyRate; split <;> rfl
@[simp] theorem Floor.keyUp_replies (f : Floor) : f.keyUp.replies = f.replies := by
  unfold Floor.keyUp
  split
  · cases f.clr <;> simp [Floor.startSending]
  · rfl
@[simp] theorem Floor.keyUp_notices (f : Floor) : f.keyUp.notices = f.notices := by
  unfold Floor.keyUp
  split
  · cases f.clr <;> simp [Floor.startSending]
  · rfl

/-- A LOAD demand is urgent when the trailer bound at its door has a Tdep that the urgency lead reaches (R130). -/
theorem State.urgent_iff (s : State) (d : Demand) :
    s.urgent d = true ↔ ∃ n t, d.target = some n ∧ s.boundAt n = some t ∧
      s.offset t.tdep ≤ s.offset s.now + s.sched.settings.urgencyLead := by
  unfold State.urgent
  split
  · simp_all
  · split <;> simp_all

/-- Where no pairing is possible, the pairings of a step leave the state as it is (R129). -/
theorem State.pair_of_none (s : State) (h : s.pairOne = none) : s.pair = s := by
  unfold State.pair
  cases s.sched.freeQueue.length <;> simp [State.pairUpTo, h]

/-- A truck with a notice waiting is not offered a run (R154): no pairing is possible while it heads the queue. -/
theorem State.pairOne_of_notice (s : State) (n : Nat) (rest : List Nat) (queue : s.sched.freeQueue = n :: rest)
    (waits : s.floor.notices.any (fun w => w.truck == n) = true) : s.pairOne = none := by
  have room : s.offerRoom n = false := by simp [State.offerRoom, waits]
  unfold State.pairOne
  split <;> simp [queue, room]

/-- Where the night does not end in a step, what follows an effect is pairing and the floor transmitter's look. -/
theorem State.settle_of_no_end (before s : State)
    (h : ¬ (s.clock.ending = true ∧ (s.orderNewFree before.sched.freeQueue).tasks = [] ∧
      (before.clock.ending = false ∨ before.tasks ≠ []))) :
    before.settle s = (s.orderNewFree before.sched.freeQueue).pair.floorReady := by
  unfold State.settle State.endNightIfDrained
  rw [if_neg]
  rwa [(s.orderNewFree_runOnly _).clock]

/-- A step in which the night does not end touches, after the effect itself, only trucks, their queue, lanes' run holders, the
floor's queues and the report queue. -/
theorem State.settle_runOnly (before s : State)
    (h : ¬ (s.clock.ending = true ∧ (s.orderNewFree before.sched.freeQueue).tasks = [] ∧
      (before.clock.ending = false ∨ before.tasks ≠ []))) : RunOnly s (before.settle s) := by
  rw [State.settle_of_no_end before s h]
  exact ((s.orderNewFree_runOnly _).trans (State.pair_runOnly _)).trans (State.floorReady_runOnly _)

/-- The night does not end in a step that leaves the ending flag clear. -/
theorem State.settle_runOnly_of_not_ending (before s : State) (h : s.clock.ending = false) : RunOnly s (before.settle s) :=
  State.settle_runOnly before s (by simp [h])

/-- Nothing happens to an event while the reset pin is held (R182). -/
theorem State.acts_of_held (s : State) (f : State → State) (h : s.live = false) : s.acts f = s := by
  have held : s.startUp.resetHeld = true := by simpa [State.live] using h
  simp [State.acts, held]

theorem State.acts_of_live (s : State) (f : State → State) (h : s.live = true) :
    s.acts f = (s.settle (f s)).chooseFrame := by
  have free : s.startUp.resetHeld = false := by simpa [State.live] using h
  simp [State.acts, free]

theorem State.quietly_of_live (s : State) (f : State → State) (h : s.live = true) : s.quietly f = (f s).chooseFrame := by
  have free : s.startUp.resetHeld = false := by simpa [State.live] using h
  simp [State.quietly, free]

/-- An event of a stored time that is not due does nothing (R4). -/
theorem State.timed_of_not_due (s : State) (e : TimeEvent) (f : State → State) (h : s.isDue e = false) : s.timed e f = s := by
  simp [State.timed, h]

theorem State.timed_of_due (s : State) (e : TimeEvent) (f : State → State) (h : s.isDue e = true) :
    s.timed e f = s.acts (fun s => f (s.took e)) := by
  simp [State.timed, h]

/-- A message that needs a reply, with a slot free, reaches the scheduler (R151). -/
theorem State.asked_of_slot (s : State) (t : Nat) (f : State → State) (h : s.slotFor t = true) : s.asked t f = f s := by
  simp only [State.slotFor, Bool.and_eq_true] at h
  simp [State.asked, h.1, h.2]

/-- A message of a truck that is not OFF is handed to the scheduler, the truck woken (R123). -/
theorem State.heard_of_on (s : State) (t : Nat) (f : State → State) (h : s.hears t = true) (h' : (s.truck t).state ≠ .off) :
    s.heard t f = s.acts (fun s => f (s.wake t)) := by
  simp [State.heard, h, h']

/-- A message but Logon of a truck that is OFF is ignored (R123). -/
theorem State.heard_of_off (s : State) (t : Nat) (f : State → State) (h : (s.truck t).state = .off) : s.heard t f = s := by
  simp [State.heard, h]

end Sys2Proof.Machine
end

