-- ==== Sys2Proof/Laws/Interpreter.lean ====
section
/-!
SUPPORT. What the two receivers and the interpreter can do, said once: the rule that a command's row gives, and the bytes that leave a
receiver as it is.
-/

namespace Sys2Proof.Machine

/-! ### The interpreter (R173) -/

/-- The row of every command of the depot computer answers by the rule that the interpreter gives the frame of that command, under
that frame's tag. -/
theorem exec_eq_interpret (c : Instr) (f : Frame) (s : State) (h : c.frame? = some f) (hc : c ≠ .unknownCommand f) :
    exec c s = .next (s.interpret c (f.kind.toNat + 0x80) f.tag (Instr.rule c)) := by
  cases c <;> simp only [Instr.frame?, Option.some.injEq, reduceCtorEq] at h <;> subst h <;> first | rfl | exact absurd rfl hc

/-- With the slot full, or no frame waiting, the interpreter takes nothing. -/
theorem State.interpretHead_of_none (s : State) (h : s.link.slot.isSome = true ∨ s.link.receive = []) : s.interpretHead = s := by
  unfold State.interpretHead
  split
  · simp_all
  · rfl

theorem State.interpretAll_of_none (s : State) (h : s.link.slot.isSome = true ∨ s.link.receive = []) : s.interpretAll = s := by
  rw [State.interpretAll, s.interpretHead_of_none h, s.interpretHead_of_none h]

/-! ### The receivers (R150, R171) -/

/-- Out of frame, a byte that is no start byte is discarded (R171). -/
theorem State.stationByte_of_junk (s : State) (b : Byte) (h : s.link.rx = []) (hb : b ≠ 0xA5#8) : s.stationByte b = s := by
  simp [State.stationByte, h, hb]

/-- With KEY up every byte is discarded (R150). -/
theorem State.floorByte_of_keyed (s : State) (b : Byte) (h : s.floor.keyed = true) : s.floorByte b = s := by
  simp [State.floorByte, h]

/-- Out of frame, a byte that is no start byte is discarded (R150). -/
theorem State.floorByte_of_junk (s : State) (b : Byte) (h : s.floor.rx = []) (hb : b ≠ 0xC3#8) : s.floorByte b = s := by
  simp [State.floorByte, h, hb]

/-- A received message finds the receiver as it finds it out of frame: the bytes gathered leave no trace (R150). -/
theorem State.received_rx (s : State) (rx : List Byte) (t : Nat) (f : State → State) (h : s.hears t = true) :
    State.received { s with floor := { s.floor with rx := rx } } t f = s.received t f := by
  simp only [State.received, State.hears, State.outOfFrame, Floor.keyed] at *
  simp only [h]
  rfl

end Sys2Proof.Machine
end

