-- ==== Sys2Proof/Laws/Pallets.lean ====
section
/-!
SUPPORT. What the pallet table's operations can do, said once: each keeps the agreement of the pallet table and the depot
counters (R24, R28).
-/

namespace Sys2Proof.Machine

/-! ### Lists of records with no id twice -/

/-- The record looked up is one of the table's, and carries the id. -/
theorem State.pallet?_some {s : State} {id : Nat} {r : PalletRec} (h : s.pallet? id = some r) : r ∈ s.pallets ∧ r.id = id :=
  ⟨List.mem_of_find?_eq_some h, by simpa using List.find?_some h⟩

/-- With no id twice, the record found under an id is the only one that carries it. -/
theorem find_unique {r : PalletRec} :
    ∀ {l : List PalletRec}, (l.map PalletRec.id).Nodup → r ∈ l → l.find? (fun p => p.id == r.id) = some r
  | [], _, h => by simp at h
  | a :: l, nodup, h => by
    simp only [List.map_cons, List.nodup_cons, List.mem_map, not_exists, not_and] at nodup
    rcases List.mem_cons.1 h with rfl | h
    · simp
    · have : ¬ a.id = r.id := fun e => nodup.1 r h e.symm
      simpa [List.find?_cons, this] using find_unique nodup.2 h

theorem State.pallet?_unique {s : State} (nodup : (s.pallets.map PalletRec.id).Nodup) {r : PalletRec} (h : r ∈ s.pallets) :
    s.pallet? r.id = some r := find_unique nodup h

/-- Changing the one record of an id changes a count by what that record counts for. -/
theorem countP_change (q : PalletRec → Bool) (f : PalletRec → PalletRec) {r : PalletRec} :
    ∀ {l : List PalletRec}, (l.map PalletRec.id).Nodup → r ∈ l →
      (l.map (fun p => if p.id == r.id then f p else p)).countP q + (q r).toNat = l.countP q + (q (f r)).toNat
  | [], _, h => by simp at h
  | a :: l, nodup, h => by
    simp only [List.map_cons, List.nodup_cons, List.mem_map, not_exists, not_and] at nodup
    rcases List.mem_cons.1 h with rfl | h
    · have others : l.map (fun p => if p.id == r.id then f p else p) = l := by
        conv => rhs; rw [← List.map_id l]
        refine List.map_congr_left (fun p hp => ?_)
        have : p.id ≠ r.id := nodup.1 p hp
        simp [this]
      rw [List.map_cons, List.countP_cons, List.countP_cons, others]
      cases hr : q r <;> cases hf : q (f r) <;> simp [hf]
    · have : a.id ≠ r.id := fun e => nodup.1 r h e.symm
      have ih := countP_change q f nodup.2 h
      rw [List.map_cons, List.countP_cons, List.countP_cons]
      simp only [this, beq_iff_eq, if_false] at ih ⊢
      omega

/-- Taking the one record of an id out lowers a count by what that record counts for. -/
theorem countP_erase (q : PalletRec → Bool) {r : PalletRec} :
    ∀ {l : List PalletRec}, (l.map PalletRec.id).Nodup → r ∈ l →
      (l.filter (fun p => p.id != r.id)).countP q + (q r).toNat = l.countP q
  | [], _, h => by simp at h
  | a :: l, nodup, h => by
    simp only [List.map_cons, List.nodup_cons, List.mem_map, not_exists, not_and] at nodup
    rcases List.mem_cons.1 h with rfl | h
    · have others : l.filter (fun p => p.id != r.id) = l := by
        refine List.filter_eq_self.2 (fun p hp => ?_)
        have : p.id ≠ r.id := nodup.1 p hp
        simp [this]
      simp only [bne_self_eq_false, List.filter_cons, Bool.false_eq_true, if_false, others, List.countP_cons]
      cases q r <;> simp
    · have : a.id ≠ r.id := fun e => nodup.1 r h e.symm
      have ih := countP_erase q nodup.2 h
      simp only [List.filter_cons, bne_iff_ne, ne_eq, this, not_false_eq_true, if_true, List.countP_cons]
      omega

/-- Adding a record raises a count by what it counts for, wherever it goes. -/
theorem countP_insertAsc (q : PalletRec → Bool) (r : PalletRec) :
    ∀ l : List PalletRec, (insertAsc PalletRec.id r l).countP q = l.countP q + (q r).toNat
  | [] => by cases h : q r <;> simp [insertAsc, h]
  | a :: l => by
    have ih := countP_insertAsc q r l
    simp only [insertAsc]
    split
    · rw [List.countP_cons]; cases q r <;> simp
    · rw [List.countP_cons, ih, List.countP_cons]; omega

theorem mem_insertAsc (key : α → Nat) (a x : α) : ∀ l : List α, x ∈ insertAsc key a l ↔ x = a ∨ x ∈ l
  | [] => by simp [insertAsc]
  | b :: l => by
    have ih := mem_insertAsc key a x l
    simp only [insertAsc]
    split
    · simp
    · simp only [List.mem_cons, ih]; exact or_left_comm

/-- Adding an element with a new key keeps the keys different. -/
theorem insertAsc_nodup (key : α → Nat) (a : α) :
    ∀ {l : List α}, (l.map key).Nodup → key a ∉ l.map key → ((insertAsc key a l).map key).Nodup
  | [], _, _ => by simp [insertAsc]
  | b :: l, h, new => by
    simp only [insertAsc]
    simp only [List.map_cons, List.nodup_cons, List.mem_cons, not_or] at h new
    split
    · simp only [List.map_cons, List.nodup_cons, List.mem_cons, not_or]
      exact ⟨new, h⟩
    · have ih := insertAsc_nodup key a h.2 new.2
      simp only [List.map_cons, List.nodup_cons]
      refine ⟨fun hm => ?_, ih⟩
      obtain ⟨x, hx, e⟩ := List.mem_map.1 hm
      rcases (mem_insertAsc key a x l).1 hx with rfl | hx
      · exact new.1 e
      · exact h.1 (e ▸ List.mem_map_of_mem hx)

/-! ### The counters (R23, R24) -/

/-- The counter of a depot record for a state; a MISSING record is in none. -/
def DepotRec.counter (d : DepotRec) : PalletState → Nat
  | .expected => d.expected | .moving => d.moving | .staged => d.staged | .held => d.held | .loaded => d.loaded
  | .missing => 0

/-- How much a record in state `o` counts for in the counter of `st`. -/
def counts (o : Option PalletState) (st : PalletState) : Nat := if o = some st then 1 else 0

/-- A counter after a record has left one state for another. -/
theorem DepotRec.counter_move (d : DepotRec) (old new : Option PalletState) (st : PalletState) (h : st ≠ .missing) :
    ((d.leave old).enter new).counter st = d.counter st - counts old st + counts new st := by
  rcases old with _ | old <;> rcases new with _ | new <;> cases st <;>
    (try cases old) <;> (try cases new) <;>
    simp [DepotRec.leave, DepotRec.enter, DepotRec.adjust, DepotRec.counter, counts] at h ⊢

theorem State.countersAgree_iff (s : State) (d : Nat) :
    s.countersAgree d ↔ ∀ st, st ≠ .missing → (s.depot d).counter st = s.countOf d st := by
  unfold State.countersAgree
  refine ⟨fun ⟨a, b, c, e, f⟩ st h => ?_, fun h => ⟨h .expected (by simp), h .moving (by simp), h .staged (by simp),
    h .held (by simp), h .loaded (by simp)⟩⟩
  cases st <;> first | exact absurd rfl h | assumption

theorem State.countOf_eq_countP (s : State) (d : Nat) (st : PalletState) :
    s.countOf d st = s.pallets.countP (fun r => r.dest == d && r.place.state == st) := by
  simp [State.countOf, List.countP_eq_length_filter]

/-- The agreement is of the pallet table and the depot table alone. -/
theorem State.RecordsCounted.congr {s t : State} (h : s.RecordsCounted) (hp : t.pallets = s.pallets)
    (hd : t.depots = s.depots) : t.RecordsCounted where
  ids := hp ▸ h.ids
  dests := hp ▸ h.dests
  counters d h1 h2 := by
    have := h.counters d h1 h2
    simpa [State.countersAgree, State.countOf, State.depot, hp, hd] using this

/-- What the door unit does touches neither table. -/
theorem State.RecordsCounted.of_doorOnly {s t : State} (h : s.RecordsCounted) (k : DoorOnly s t) : t.RecordsCounted :=
  h.congr k.pallets k.depots

/-- A pallet's change of state touches the pallet table nowhere else, and the depot table in its destination's record. -/
theorem State.count_spec (s : State) (d : Nat) (old new : Option PalletState) :
    (s.count d old new).pallets = s.pallets ∧
      (s.count d old new).depots = (s.modDepot d (fun r => (r.leave old).enter new)).depots := by
  unfold State.count
  simp only []
  split
  · have k := State.exhaustedNotice_doorOnly (s.modDepot d (fun r => (r.leave old).enter new)) d
    exact ⟨by rw [k.pallets]; simp, k.depots⟩
  · exact ⟨by simp, rfl⟩

/-- A record of the table counts for its own state among its destination's. -/
theorem State.counts_le (s : State) {r : PalletRec} (h : r ∈ s.pallets) (st : PalletState) :
    counts (some r.place.state) st ≤ s.countOf r.dest st := by
  by_cases e : r.place.state = st
  · have : 0 < s.countOf r.dest st := by
      rw [State.countOf_eq_countP, List.countP_pos_iff]
      exact ⟨r, h, by simp [e]⟩
    simp only [counts, e, if_true]; omega
  · simp [counts, e]

/-- The counters of every depot after a change of state of one record, against a pallet table that changed as the counters did. -/
theorem State.count_countersAgree {s t : State} {dest : Nat} {old new : Option PalletState}
    (hd : t.depots = s.depots) (h : ∀ d, 1 ≤ d → d ≤ 127 → s.countersAgree d)
    (ho : ∀ st, counts old st ≤ s.countOf dest st)
    (hc : ∀ d st, t.countOf d st + (if d = dest then counts old st else 0) =
      s.countOf d st + (if d = dest then counts new st else 0)) :
    ∀ d, 1 ≤ d → d ≤ 127 → (t.count dest old new).countersAgree d := by
  intro d h1 h2
  rw [State.countersAgree_iff]
  intro st hst
  have agree := (State.countersAgree_iff s d).1 (h d h1 h2) st hst
  have same : t.depot d = s.depot d := by simp [State.depot, hd]
  obtain ⟨hp, hde⟩ := t.count_spec dest old new
  have count : (t.count dest old new).countOf d st = t.countOf d st := by simp [State.countOf, hp]
  have depot : (t.count dest old new).depot d = (t.modDepot dest (fun r => (r.leave old).enter new)).depot d := by
    simp [State.depot, hde]
  have change := hc d st
  rw [count, depot]
  by_cases e : d = dest
  · subst e
    rw [State.depot_modDepot _ _ _ ⟨h1, h2⟩, DepotRec.counter_move _ _ _ _ hst, same, agree]
    have := ho st
    simp only [if_true] at change
    omega
  · rw [State.depot_modDepot_of_ne _ _ _ _ (Ne.symm e), same, agree]
    simp only [e, if_false] at change
    omega

/-- How a record counts for a depot and a state. -/
theorem toNat_counts (r : PalletRec) (d : Nat) (st : PalletState) :
    (r.dest == d && r.place.state == st).toNat = if d = r.dest then counts (some r.place.state) st else 0 := by
  by_cases e : r.dest = d
  · by_cases e' : r.place.state = st <;> simp [e, e', counts]
  · have : ¬ d = r.dest := fun x => e x.symm
    simp [e, this]

/-! ### The operations -/

/-- Moving a record keeps the agreement (R23, R24). -/
theorem State.RecordsCounted.movePallet {s : State} (h : s.RecordsCounted) (id : Nat) (place : Whereabouts) :
    (s.movePallet id place).RecordsCounted := by
  unfold State.movePallet
  split
  · exact h
  · next r hr =>
    obtain ⟨mem, rfl⟩ := State.pallet?_some hr
    obtain ⟨hp, hde⟩ := (s.modPallet r.id (fun r => { r with place := place })).count_spec r.dest (some r.place.state)
      (some place.state)
    have ids : (s.modPallet r.id (fun r => { r with place := place })).pallets.map PalletRec.id = s.pallets.map PalletRec.id := by
      simp only [State.modPallet, List.map_map]
      refine List.map_congr_left (fun p _ => ?_)
      simp only [Function.comp]; split <;> rfl
    refine ⟨by rw [hp, ids]; exact h.ids, ?_, ?_⟩
    · rw [hp]
      intro p hm
      simp only [State.modPallet, List.mem_map] at hm
      obtain ⟨x, hx, rfl⟩ := hm
      split <;> exact h.dests x hx
    · refine State.count_countersAgree (s := s) rfl h.counters (s.counts_le mem) (fun d st => ?_)
      have := countP_change (fun r => r.dest == d && r.place.state == st) (fun r => { r with place := place }) h.ids mem
      rw [toNat_counts, toNat_counts] at this
      simpa only [State.countOf_eq_countP, State.modPallet] using this

theorem State.RecordsCounted.landPallet {s : State} (h : s.RecordsCounted) (id : Nat) (place : Whereabouts) :
    (s.landPallet id place).RecordsCounted := by
  unfold State.landPallet
  split
  · exact h.movePallet id place
  · exact h

/-- Creating a record whose id is new keeps the agreement (R24, R28). -/
theorem State.RecordsCounted.createPallet {s : State} (h : s.RecordsCounted) (r : PalletRec) (new : s.pallet? r.id = none)
    (dest : r.dest ≤ 127) : (s.createPallet r).RecordsCounted := by
  unfold State.createPallet
  obtain ⟨hp, hde⟩ := State.count_spec { s with pallets := insertAsc PalletRec.id r s.pallets } r.dest none (some r.place.state)
  have fresh : r.id ∉ s.pallets.map PalletRec.id := by
    intro hm
    obtain ⟨x, hx, e⟩ := List.mem_map.1 hm
    have := List.find?_eq_none.1 new x hx
    simp [e] at this
  refine ⟨by rw [hp]; exact insertAsc_nodup _ _ h.ids fresh, ?_, ?_⟩
  · rw [hp]
    intro p hm
    rcases (mem_insertAsc _ _ _ _).1 hm with rfl | hm
    · exact dest
    · exact h.dests p hm
  · refine State.count_countersAgree (s := s) rfl h.counters (fun st => by simp [counts]) (fun d st => ?_)
    simp only [State.countOf_eq_countP, countP_insertAsc, toNat_counts]
    simp [counts]

/-- Freeing a record keeps the agreement (R24, R41). -/
theorem State.RecordsCounted.freePallet {s : State} (h : s.RecordsCounted) (id : Nat) : (s.freePallet id).RecordsCounted := by
  unfold State.freePallet
  split
  · exact h
  · next r hr =>
    obtain ⟨mem, rfl⟩ := State.pallet?_some hr
    obtain ⟨hp, hde⟩ := State.count_spec { s with pallets := s.pallets.filter (fun p => p.id != r.id) } r.dest
      (some r.place.state) none
    refine ⟨by rw [hp]; exact (List.filter_sublist.map _).nodup h.ids, ?_, ?_⟩
    · rw [hp]; exact fun p hm => h.dests p (List.mem_filter.1 hm).1
    · refine State.count_countersAgree (s := s) rfl h.counters (s.counts_le mem) (fun d st => ?_)
      have := countP_erase (fun r => r.dest == d && r.place.state == st) h.ids mem
      rw [toNat_counts] at this
      simp only [State.countOf_eq_countP]
      simp [counts] at this ⊢
      exact this

/-- A table whose records were changed without their ids, destinations and states, under the same depot table. -/
theorem State.RecordsCounted.map {s t : State} (h : s.RecordsCounted) (f : PalletRec → PalletRec)
    (hf : ∀ p, (f p).id = p.id ∧ (f p).dest = p.dest ∧ (f p).place.state = p.place.state) (hp : t.pallets = s.pallets.map f)
    (hd : t.depots = s.depots) : t.RecordsCounted := by
  refine ⟨?_, ?_, fun d h1 h2 => ?_⟩
  · rw [hp, List.map_map]
    have : PalletRec.id ∘ f = PalletRec.id := funext (fun p => (hf p).1)
    rw [this]; exact h.ids
  · rw [hp]
    intro p hm
    obtain ⟨x, hx, rfl⟩ := List.mem_map.1 hm
    rw [(hf x).2.1]; exact h.dests x hx
  · have agree := h.counters d h1 h2
    rw [State.countersAgree_iff] at agree ⊢
    intro st hst
    have same : t.depot d = s.depot d := by simp [State.depot, hd]
    rw [same, agree st hst, State.countOf_eq_countP, State.countOf_eq_countP, hp, List.countP_map]
    refine List.countP_congr (fun p _ => ?_)
    simp [(hf p).2.1, (hf p).2.2]

/-- Changing a record without its id, destination and state keeps the agreement. -/
theorem State.RecordsCounted.modPallet {s : State} (h : s.RecordsCounted) (id : Nat) (f : PalletRec → PalletRec)
    (hf : ∀ p, (f p).id = p.id ∧ (f p).dest = p.dest ∧ (f p).place.state = p.place.state) :
    (s.modPallet id f).RecordsCounted :=
  h.map (fun p => if p.id == id then f p else p)
    (fun p => by by_cases e : (p.id == id) = true <;> simp only [e] <;> first | exact hf p | exact ⟨rfl, rfl, rfl⟩) rfl rfl

/-- Freeing a trailer's record touches no destination and no state (R41). -/
theorem State.RecordsCounted.freeTrailer {s : State} (h : s.RecordsCounted) (fleet : Nat) :
    (s.freeTrailer fleet).RecordsCounted :=
  h.map (fun p => if p.inbound = some fleet then { p with inbound := none } else p)
    (fun p => by split <;> exact ⟨rfl, rfl, rfl⟩) rfl rfl

end Sys2Proof.Machine
end

