-- ==== Sys2Proof/Laws/Plans.lean ====
section
/-!
SUPPORT. What the planner's operations on one plan can do, said once: what a position reads after a stack is replaced (R102), what a
placement, a confirmation and a release leave on each position (R111 to R114, R116), and what a drop switch and a seal check leave of
a plan's entries and totals (R117, R119).
-/

namespace Sys2Proof.Machine

/-! ### Positions -/

section
variable (p : Plan) (r : Nat) (x : Side) (st : List Entry)

@[simp] theorem Plan.setStack_figures : (p.setStack r x st).figures = p.figures := rfl
@[simp] theorem Plan.raiseTotals_rows (w : Nat) : (p.raiseTotals r x w).rows = p.rows := rfl
@[simp] theorem Plan.lowerTotals_rows (w : Nat) : (p.lowerTotals r x w).rows = p.rows := rfl
@[simp] theorem Plan.recounted_rows : p.recounted.rows = p.rows := rfl

/-- Two plans with the same rows have the same stacks. -/
theorem Plan.stack_congr {p q : Plan} (h : p.rows = q.rows) : p.stack = q.stack := by
  funext r x
  simp [Plan.stack, Plan.row, h]

@[simp] theorem PlanRow.stack_setStack_self (row : PlanRow) : (row.setStack x st).stack x = st := by cases x <;> rfl

theorem PlanRow.stack_setStack_of_ne (row : PlanRow) {x y : Side} (h : y ≠ x) :
    (row.setStack x st).stack y = row.stack y := by
  cases x <;> cases y <;> first | rfl | exact absurd rfl h

/-- The row of a position whose stack is replaced. -/
theorem Plan.row_setStack (h : 1 ≤ r) (h' : r ≤ p.rows.length) :
    (p.setStack r x st).row r = (p.row r).setStack x st := by
  have : r - 1 < p.rows.length := by omega
  simp [Plan.row, Plan.setStack, this]

theorem Plan.row_setStack_of_ne {r' : Nat} (h : 1 ≤ r) (h' : 1 ≤ r') (ne : r' ≠ r) :
    (p.setStack r x st).row r' = p.row r' := by
  have : r - 1 ≠ r' - 1 := by omega
  simp [Plan.row, Plan.setStack, this]

/-- A replaced stack reads as written. -/
theorem Plan.stack_setStack_self (h : 1 ≤ r) (h' : r ≤ p.rows.length) : (p.setStack r x st).stack r x = st := by
  simp [Plan.stack, p.row_setStack r x st h h']

/-- Every other position reads as before. -/
theorem Plan.stack_setStack_of_ne {r' : Nat} {x' : Side} (h : 1 ≤ r) (h' : 1 ≤ r') (ne : r' ≠ r ∨ x' ≠ x) :
    (p.setStack r x st).stack r' x' = p.stack r' x' := by
  by_cases hr : r' = r
  · subst hr
    by_cases hl : r' ≤ p.rows.length
    · rw [Plan.stack, p.row_setStack r' x st h hl]
      exact PlanRow.stack_setStack_of_ne st _ (ne.resolve_left (absurd rfl))
    · have : p.rows.length ≤ r' - 1 := by omega
      simp [Plan.stack, Plan.row, Plan.setStack, List.set_eq_of_length_le this]
  · simp [Plan.stack, p.row_setStack_of_ne r x st h h' hr]

end

/-! ### Placement, confirmation and release -/

/-- What the entry of a placement does to the positions: it goes on top of the candidate's stack (R111, R112). -/
theorem Plan.add_stack (p : Plan) (c : Candidate) (e : Entry) (r : Nat) (x : Side) :
    (p.add c e).stack r x = (p.setStack c.row c.side (p.stack c.row c.side ++ [e])).stack r x := by
  have : (p.add c e).rows = (p.setStack c.row c.side (p.stack c.row c.side ++ [e])).rows := by
    unfold Plan.add
    dsimp only
    split <;> rfl
  rw [Plan.stack_congr this]

theorem Entry.isReservedOf_iff (e : Entry) (id : Nat) : e.isReservedOf id = true ↔ e.id = id ∧ e.confirmed = false := by
  simp [Entry.isReservedOf]

theorem Plan.hasReserved_iff (p : Plan) (id : Nat) :
    p.hasReserved id = true ↔ ∃ e ∈ p.entries, e.id = id ∧ e.confirmed = false := by
  simp [Plan.hasReserved, Entry.isReservedOf_iff]

/-- A confirmation changes nothing but the entries and the reserved count (R113, R116). -/
theorem Plan.confirm_only (p : Plan) (id : Nat) :
    p.confirm id = { p with rows := (p.confirm id).rows, reserved := (p.confirm id).reserved } := by
  unfold Plan.confirm
  split <;> rfl

/-- A release is that of a position that has been found, or none (R114, R116). -/
theorem Plan.release_cases (p : Plan) (id : Nat) :
    findReserved id 1 p.rows = none ∧ p.release id = p ∨
      ∃ r x e, findReserved id 1 p.rows = some (r, x, e) ∧
        (p.release id).rows = (p.setStack r x ((p.stack r x).filter (fun y => !y.isReservedOf id))).rows ∧
        (p.release id).weight = p.weight - e.weight ∧ (p.release id).moment = p.moment - e.weight * rowCentre r ∧
        (p.release id).reserved = p.reserved - 1 := by
  unfold Plan.release
  split
  · exact .inl ⟨‹_›, rfl⟩
  · exact .inr ⟨_, _, _, ‹_›, rfl, rfl, rfl, rfl⟩

/-! ### What leaves a plan's entries and totals alone -/

theorem Plan.SameLoad.refl (p : Plan) : p.SameLoad p := rfl

theorem Plan.SameLoad.trans {p q r : Plan} (h : p.SameLoad q) (h' : q.SameLoad r) : p.SameLoad r := by
  unfold Plan.SameLoad at *
  rw [← h', ← h]

theorem Plan.SameLoad.rows {p q : Plan} (h : p.SameLoad q) : p.rows = q.rows := by rw [← h]
theorem Plan.SameLoad.reserved {p q : Plan} (h : p.SameLoad q) : p.reserved = q.reserved := by
  rw [← h]

/-- A drop switch moves no entry and changes no total (R117). -/
theorem Plan.switched_sameLoad (p : Plan) : p.switched.SameLoad p := by
  unfold Plan.switched Plan.SameLoad
  split <;> rfl

/-- Neither does the loading mark (R105) or the result of a seal check (R119). -/
theorem Plan.marked_sameLoad (p : Plan) (loading : Bool) (result : Option SealResult) :
    Plan.SameLoad { p with loading := loading, sealResult := result } p := rfl

end Sys2Proof.Machine
end

