-- ==== Sys2Proof/Tests/Slice0.lean ====
section
/-!
SUPPORT. Tests: the checks of WellFormed, the manual's worked examples, and for each statement with hypotheses a concrete state
and operands that meet them. The expected values are the manual's own (the sections are named).
-/

namespace Sys2Proof.Tests

open Sys2Proof Sys2Proof.Machine

-- Tests are checked one after another: many kernel evaluations at once would each hold a thread.
set_option Elab.async false

/-! ### States to test on -/

/-- The state a step leaves. -/
def after (o : Host.Outcome State Fault Refusal) : State :=
  match o with
  | .next t => t
  | _ => State.reset

/-- The clock of the night of §1.7. -/
def clockAt (second : Nat) (phase : Phase) : NightClock :=
  { NightClock.reset with
    second := second, valid := true, topen := 79200, ttransfer := 84600, tclose := 14400, tend := 19800, nightValid := true,
    phase := phase }

/-- The part started, at a time of the night of §1.7, with nothing on the station link's line. -/
def night (second : Nat) (phase : Phase) : State :=
  let link := { Link.reset false false with sending := none }
  let startUp := { StartUp.reset .power with configured := true }
  { State.reset with startUp := startUp, clock := clockAt second phase, link := link }

/-- The class of §4.9 and §2.9's trailers: 13 rows, two tiers. -/
def aClass : ClassRec :=
  { rows := 13, hmax := 27, wmax := 24000, axleX := 22, kmax := 12000, amax := 18000, tiers := 2, dlat := none,
    pattern := .alternate, flip := false, valid := true }

/-- A trailer between depot 7 and depot 15. -/
def aTrailer (fleet : Nat) (role : Role) (state : TrailerState) : TrailerRec :=
  { fleet := fleet, role := role, origin := 7, near := if role = .inbound then 0 else 15, far := none, cls := 2,
    window := none, tdep := 18000, closingLead := 600, switchLead := 2400, gate := none, dock := none, lapses := 0,
    late := false, early := false, expected := 0, taken := 0, loaded := 0, door := none, buffer := none, state := state }

/-- A pallet for depot 15. -/
def aPallet (p : Nat) (place : Whereabouts) : PalletRec :=
  { id := p, origin := 7, dest := 15, route := 0x3A41CE, weight := 640, height := 14, topLoad := 800, hazard := none,
    service := .standard, hold := false, saturated := false, roll := 0, inbound := none, place := place }

/-- A run with two pallets remaining. -/
def aRun (kind : RunKind) (source : Location) (target : Option Nat) : Run :=
  { kind := kind, source := source, target := target, remaining := 2, closing := false, breakMark := false, begun := false }

/-- A task of an UNLOAD run at door 3, ISSUING. -/
def aTask (p : Nat) (kind : RunKind) (source : Location) (target : Target) : Task :=
  { pallet := p, kind := kind, source := source, target := target, open_ := false, deadline := none, first := true }

/-- The plan of trailer 4115 at door 9, with pallet 108 reserved at row 1 side A. -/
def aPlan : Plan :=
  match { Plan.start (aTrailer 4115 .swap .loading) aClass 0 with loading := true }.place ((aPallet 108 (.moving 8)).entry false)
  with
  | .placed p _ => p
  | .refused _ => default

/-- A truck in a state, with a run and a task. -/
def aTruck (state : TruckState) (run : Option Run) (task : Option Task) : TruckRec :=
  { state := state, freeSince := none, lastLoc := some (.lane 22), run := run, offerEnd := none, task := task }

/-- A night's floor: a trailer at doors 3 (UNLOADING) and 9 (LOADING), one in the yard at door 5, one called to door 20, an
unbound trailer at door 14, lanes of depot 15, a bay, and trucks in every state. -/
def hall (second : Nat) (phase : Phase) : State :=
  let s := night second phase
  let door := fun (st : DoorState) (present : Bool) (bound : Option Nat) =>
    { DoorRec.reset present with enabled := true, present := present, state := st, bound := bound }
  let live := fun (r : DoorRec) (p : Plan) => { r with buffer0 := { state := .live, plan := some p } }
  let swap := { aTrailer 3021 .swap .unloading with door := some 3, buffer := some (3, 0), dock := some 80500, expected := 2 }
  let doors := s.doors |>.set 3 (live (door .bound true (some 3021)) (Plan.start swap aClass 0))
    |>.set 9 (live (door .bound true (some 4115)) aPlan)
    |>.set 5 { door .free false none with queue := [3301] }
    |>.set 14 { door .arrived true none with arrival := some 81293 }
    |>.set 20 { door .called false none with called := some 3305, callEnd := some 80300 }
  let depot7 := { DepotRec.reset with enabled := true, home := some 3 }
  let depot15 := { DepotRec.reset with
    enabled := true, home := some 9, group := [31, 32, 33], expected := 2, moving := 2, staged := 3, held := 1 }
  let lane := fun (b : Binding) (contents : List Nat) =>
    { LaneRec.reset with binding := b, state := .open_, contents := contents }
  let lanes := s.lanes |>.set 31 { lane (.depot 15) [103] with reserved := 1, holder := some 7, claim := some 7 }
    |>.set 32 { lane (.depot 15) [] with holder := some 8, tasksOut := 1 }
    |>.set 33 { lane (.depot 15) [111] with holder := some 6 }
    |>.set 90 (lane .hold [104, 105, 106])
  let run3 := aRun .unload (.door 3) none
  let trucks := s.trucks |>.set 1 { aTruck .free none none with freeSince := some 79300 }
    |>.set 3 (aTruck .offered (some run3) none)
    |>.set 4 (aTruck .onRun (some run3) none)
    |>.set 5 (aTruck .onRun (some run3) (some (aTask 107 .unload (.door 3) (.lane 31))))
    |>.set 6 (aTruck .offered (some (aRun .load (.lane 33) (some 9))) none)
    |>.set 7 (aTruck .onRun (some (aRun .load (.lane 31) (some 9))) none)
    |>.set 8 (aTruck .onRun (some (aRun .load (.lane 32) (some 9))) (some (aTask 108 .load (.lane 32) (.door 9 1 .a 1))))
    |>.set 9 (aTruck .onBreak none none)
    |>.set 10 (aTruck .absent none none)
    |>.set 11 (aTruck .onRun (some (aRun .reloc (.lane 90) none)) none)
  { s with
    doors := doors, lanes := lanes, trucks := trucks, depots := s.depots |>.set 14 depot15 |>.set 6 depot7,
    classes := s.classes.set 2 aClass, sched := { s.sched with freeQueue := [1] },
    trailers := [swap, { aTrailer 3301 .inbound .yard with door := some 5 }, { aTrailer 3305 .swap .called with door := some 20 },
      { aTrailer 4115 .swap .loading with door := some 9, buffer := some (9, 0) }, aTrailer 5001 .inbound .announced]
    pallets := [{ aPallet 101 (.expected 3021) with inbound := some 3021 },
      { aPallet 102 (.expected 3021) with inbound := some 3021, hold := true }, aPallet 103 (.staged 31),
      aPallet 104 (.held 90), { aPallet 105 (.held 90) with dest := 0 }, aPallet 106 (.staged 90), aPallet 107 (.moving 5),
      aPallet 108 (.moving 8), aPallet 109 (.missing (.truck 10)), aPallet 111 (.staged 33)] }

/-- The hall with a stored time's event reached. -/
def dueAt (s : State) (e : TimeEvent) : State :=
  { s with due := [{ event := e, time := (s.storedTime e).getD 0 }] }

/-- The state while the survey runs. -/
def surveyOf (s : State) : State := { s with startUp := { s.startUp with survey := some { elapsed := 0, total := 10 } } }

/-- The state with the floor transmitter in a state. -/
def txIn (s : State) (tx : TxState) : State := { s with floor := { s.floor with tx := tx } }

/-! ### States and operands that meet the statements' hypotheses -/

/-- What holds of every door holds of a number past the last, whose record is the default one. -/
theorem everyDoor (s : State) (P : DoorRec → Prop) (h : ∀ d < 48, P (s.door d)) (h' : P default) : ∀ d, P (s.door d) := by
  intro d
  by_cases hd : d < 48
  · exact h d hd
  · have : s.door d = default := by
      have size := s.doors.size
      simp only [State.door, Table.get, List.getD_eq_getElem?_getD]
      rw [List.getElem?_eq_none (by omega)]; rfl
    rw [this]; exact h'

theorem witness_StepRunsTheFrontCommand :
    { hall 83000 .intake with pending := [Instr.tick, .accept 3] }.pending = .tick :: [.accept 3] := by decide

/-- The hall with the reset pin held. -/
def held : State := { hall 83000 .intake with startUp := { (hall 83000 .intake).startUp with resetHeld := true } }

/-- The hall with the sub-second count given. -/
def subAt (s : State) (n : Nat) : State := { s with clock := { s.clock with sub := n } }

theorem witness_IdleAndHeldSteps :
    (held.pending = [] ∧ held.live = false) ∧
    (let s := subAt (hall 83000 .intake) 9999998
     s.pending = [] ∧ s.live = true ∧ s.clock.sub + 1 < s.clock.secondDivisor) ∧
    (let s := subAt (hall 83000 .intake) 9999999
     s.pending = [] ∧ s.live = true ∧ s.clock.secondDivisor ≤ s.clock.sub + 1) ∧
    (held.live = false ∧ Instr.ofPins .tick = false) := by decide

theorem witness_ClockCountsPeriodsAndSeconds :
    (let s := subAt (hall 86399 .transfer) 9999998
     s.clock.sub + 1 < s.clock.secondDivisor) ∧
    (let s := subAt (hall 86399 .transfer) 9999999
     s.live = true ∧ s.clock.second < 86400 ∧ s.clock.secondDivisor ≤ s.clock.sub + 1) ∧
    (let s := hall 86399 .transfer
     s.takes (.restart 1) = true ∧ s.started = true ∧ s.surveying = false) := by decide

theorem witness_TickReachesStoredTimes :
    (let s := hall 84599 .intake
     s.live = true ∧ s.clock.valid = true ∧ s.storedTime (.phaseTime .ttransfer) = some 84600 ∧
       s.storedTime (.callTimer 20) = some 80300) ∧
    (Instr.timeEvent (.callTimerEnd 20) = some (.callTimer 20) ∧ (hall 80300 .intake).isDue (.callTimer 20) = false) := by
  decide

theorem witness_TimingAndClockSettings :
    (let s := hall 83000 .intake
     s.takes (.setTiming 1 999999) = true ∧ s.surveying = false ∧ s.takes (.setTiming 1 50000000) = true ∧
       (surveyOf s).takes (.setTiming 1 50000001) = true ∧ (surveyOf s).surveying = true) ∧
    ((hall 70000 .idle).takes (.setClock 1 86400) = true ∧ (hall 70000 .idle).takes (.setClock 1 86399) = true ∧
      (hall 70000 .idle).surveying = false ∧ (hall 70000 .idle).inNight = false) ∧
    ((hall 83000 .intake).takes (.setClock 1 86399) = true ∧ (hall 83000 .intake).inNight = true) ∧
    (let s := { night 0 .unconfigured with clock := NightClock.reset }
     s.takes (.start 1) = true ∧ s.started = false ∧ s.surveying = false ∧ s.clock.valid = false) := by decide

theorem witness_SetNightStoresRisingTimes :
    (let s := hall 70000 .idle
     s.takes (.setNight 1 79200 84600 14400 19800) = true ∧ s.takes (.setNight 1 79200 79200 14400 19800) = true ∧
       s.surveying = false ∧ s.inNight = false) ∧
    ((84600 + 86400 - 79200) % 86400 < (14400 + 86400 - 79200) % 86400 ∧
      (14400 + 86400 - 79200) % 86400 < (19800 + 86400 - 79200) % 86400 ∧ ¬ 0 < (79200 + 86400 - 79200) % 86400) ∧
    ((hall 83000 .intake).takes (.setNight 1 79200 84600 14400 19800) = true ∧ (hall 83000 .intake).inNight = true) ∧
    (let s := { night 0 .unconfigured with clock := { NightClock.reset with valid := true } }
     s.takes (.start 1) = true ∧ s.started = false ∧ s.surveying = false ∧ s.clock.valid = true ∧ s.clock.nightValid = false) ∧
    ((hall 83000 .intake).takes (.restart 1) = true ∧ (hall 83000 .intake).started = true ∧
      (hall 83000 .intake).surveying = false) := by decide

/-- A night that is ending. -/
def ending (s : State) : State := { s with clock := { s.clock with ending := true } }

theorem witness_PhaseEntriesMoveTheNightOn :
    (let s := dueAt (hall 79200 .idle) (.phaseTime .topen)
     s.live = true ∧ s.isDue (.phaseTime .topen) = true ∧ s.surveying = false ∧ s.clock.phase = .idle) ∧
    (let s := dueAt (hall 19800 .close) (.phaseTime .tend)
     s.live = true ∧ s.isDue (.phaseTime .tend) = true ∧ s.clock.phase = .close ∧ s.clock.ending = false ∧ s.tasks ≠ []) ∧
    ((night 0 .unconfigured).takes (.advancePhase 1) = true ∧ (night 0 .unconfigured).started = false) ∧
    (let s := ending (hall 19900 .close)
     s.takes (.advancePhase 1) = true ∧ s.started = true ∧ s.clock.ending = true) ∧
    (let s := hall 83000 .intake
     s.takes (.advancePhase 1) = true ∧ s.started = true ∧ s.clock.ending = false ∧ s.surveying = false) := by decide

theorem witness_RolloverAgesWhatStays :
    let s := (hall 19900 .close).modDepot 15 (fun r => { r with loadedTonight := 6 })
    aTrailer 5001 .inbound .announced ∈ s.trailers ∧
      ∃ t ∈ s.trailers, (s.depot t.near).loadedTonight ≠ 0 ∨ (s.depot (t.far.getD 0)).loadedTonight ≠ 0 := by decide

/-- The route table of §2.4, its depots enabled but depot 40. -/
def routed : State :=
  let e := fun (p m : BitVec 20) (d : Nat) => ({ pattern := p, mask := m, depot := d, valid := true } : RouteEntry)
  let s := night 83000 .intake
  let on := fun (r : DepotRec) => { r with enabled := true }
  let routes := s.routes |>.set 0 (e 0x3A000 0xFF000 12) |>.set 1 (e 0x3A400 0xFFF00 15) |>.set 2 (e 0x3A400 0xFFF00 16)
    |>.set 3 (e 0x50000 0xF0000 40) |>.set 7 (e 0 0 44)
  let s := { s with routes := routes }
  (((s.modDepot 12 on).modDepot 15 on).modDepot 16 on).modDepot 44 on

theorem witness_RouteCodesResolveByGreatestWeight :
    (let n := (0x3A41C5#24).toNat
     n % 16 ≠ (n / 16 % 16 + n / 256 % 16 + n / 4096 % 16 + n / 65536 % 16 + n / 1048576) % 16) ∧
    (let s := { routed with routes := routed.routes.set 7 RouteEntry.reset }
     let n := (0x777773#24).toNat
     n % 16 = (n / 16 % 16 + n / 256 % 16 + n / 4096 % 16 + n / 65536 % 16 + n / 1048576) % 16 ∧
     ∀ i < 256, ¬ ((s.routes.get i).valid = true ∧ BitVec.ofNat 20 (n / 16) &&& (s.routes.get i).mask = (s.routes.get i).pattern)) ∧
    (let s := routed
     let n := (0x3A41CE#24).toNat
     let hit := fun i => (s.routes.get i).valid = true ∧
       BitVec.ofNat 20 (n / 16) &&& (s.routes.get i).mask = (s.routes.get i).pattern
     let weight := fun i => maskWeight (s.routes.get i).mask
     n % 16 = (n / 16 % 16 + n / 256 % 16 + n / 4096 % 16 + n / 65536 % 16 + n / 1048576) % 16 ∧ hit 1 ∧
     ∀ j < 256, hit j → weight j < weight 1 ∨ (weight j = weight 1 ∧ 1 ≤ j)) := by decide +kernel

theorem witness_RouteCommandsWriteTheTable :
    let s := hall 83000 .intake
    (s.takes (.setRoute 1 255 0xFFFFF 0xFFFFF 127) = true ∧ s.takes (.setRoute 1 256 0 0 127) = true ∧
      s.takes (.setRoute 1 255 0 0 0) = true ∧ s.surveying = false ∧ (surveyOf s).surveying = true ∧
      (surveyOf s).takes (.setRoute 1 0 0 0 1) = true) ∧
    (s.takes (.restart 1) = true ∧ s.started = true) ∧
    (s.takes (.clearRoute 1 255) = true ∧ s.takes (.clearRoute 1 256) = true ∧ (surveyOf s).takes (.clearRoute 1 0) = true ∧
      s.takes (.clearRouteAll 1) = true ∧ (surveyOf s).takes (.clearRouteAll 1) = true) := by decide

theorem witness_SetDepotWritesFourFields :
    let s := hall 83000 .intake
    let f : DepotFields := { enabled := true, home := some 9, group := [31, 33], priority := true }
    (s.takes (.setDepot 1 15 f) = true ∧ s.surveying = false ∧ (∀ l ∈ f.group, l ≤ 95) ∧ f.group.Nodup ∧ f.group.length ≤ 8 ∧
      (f.enabled = true → f.group ≠ []) ∧ s.started = true ∧ (∀ l ∈ f.group, (s.lane l).binding = .depot 15) ∧
      ((s.depot 15).enabled = true → f.enabled ≠ false)) ∧
    (∀ h, f.home = some h → h ≤ 47 ∧ (s.door h).state ≠ .off) := by
  refine ⟨by decide +kernel, ?_⟩
  intro h e
  obtain rfl : 9 = h := by simpa using e
  decide

/-- Two new pallets' labels. -/
def newEntries : List ManifestEntry :=
  let l : Label := { route := 0x3A41CE, weight := 0, height := 26, topLoad := 2000, hazard := 7, cls := 2, hold := false }
  [{ id := 201, label := l }, { id := 202, label := { l with cls := 1, weight := 1500 } }]

theorem witness_ManifestCreatesExpectedRecords :
    let s := hall 83000 .intake
    let tr := aTrailer 5001 .inbound .announced
    s.takes (.manifest 1 5001 newEntries.length newEntries 0) = true ∧ s.started = true ∧ s.surveying = false ∧
      newEntries.length ≤ 64 ∧ s.trailer? 5001 = some tr ∧ tr.role ≠ .outbound ∧ tr.state = .announced ∧
      (∀ e ∈ newEntries, e.id ≠ 0 ∧ e.label.hazard ≤ 7 ∧ (e.label.cls = 1 ∨ e.label.cls = 2) ∧ s.pallet? e.id = none) ∧
      (newEntries.map ManifestEntry.id).Nodup ∧ s.pallets.length + newEntries.length ≤ 4096 ∧
      tr.expected + newEntries.length ≤ 65535 := by decide +kernel

theorem witness_HoldingAndReleaseChangeOneRecord :
    let s := hall 83000 .intake
    (s.takes (.holdOnArrival 1 999) = true ∧ s.started = true ∧ s.surveying = false ∧ s.pallet? 999 = none ∧
      (s.pallet? 103).map (·.place.state) = some .staged ∧ (s.pallet? 101).map (·.place.state) = some .expected) ∧
    (s.takes (.releaseHeld 1 105 (some 15)) = true ∧ (s.pallet? 105).map PalletRec.place = some (.held 90) ∧
      (s.pallet? 105).map PalletRec.dest = some 0 ∧ (s.depot 15).enabled = true) ∧
    (s.takes (.releaseHeld 1 104 none) = true ∧ (s.pallet? 104).map PalletRec.place = some (.held 90) ∧
      (s.pallet? 104).map PalletRec.dest = some 15) ∧
    (s.takes (.releaseHeld 1 105 none) = true ∧ s.takes (.releaseHeld 1 104 (some 127)) = true) := by decide

/-- A door's debounce count, complete. -/
def counted (s : State) (d : Nat) (present : Bool) : State :=
  s.modDoor d (fun r => { r with present := present, count := some { elapsed := 30000000, total := 30000000 } })

theorem witness_SenseLinesMoveDoors :
    let s := hall 83000 .intake
    let complete := fun (t : State) (d : Nat) => t.live = true ∧ d < 48 ∧
      (t.door d).count = some { elapsed := 30000000, total := 30000000 }
    complete (counted s 47 false) 47 ∧ ((counted s 47 false).door 47).state = .off ∧
    (complete (counted s 5 false) 5 ∧ ((counted s 5 false).door 5).state = .free ∧ s.started = true ∧ s.surveying = false) ∧
    (complete (counted s 20 false) 20 ∧ ((counted s 20 false).door 20).state = .called) ∧
    (let t := counted (s.modDoor 14 (fun r => { r with called := some 3305 })) 14 true
     complete t 14 ∧ (t.door 14).state = .arrived ∧ (t.door 14).called = some 3305) ∧
    (let t := counted (hall 70000 .idle) 14 true
     complete t 14 ∧ (t.door 14).state = .arrived ∧ (t.door 14).called = none ∧ t.working = false) := by decide

theorem witness_AbsentLineUnderATrailerIsItsDeparture :
    let s := counted (hall 83000 .transfer) 9 true
    ((s.live = true ∧ (s.door 9).count = some { elapsed := 30000000, total := 30000000 } ∧ s.started = true ∧
      s.surveying = false ∧ (s.door 9).present = true ∧ (s.door 9).state = .bound ∧ (s.door 9).bound = some 4115) ∧
      ((s.trailer? 4115).map (·.state.isBound)) = some true) ∧
    ∀ e, 4115 ∉ (s.door e).queue :=
  ⟨by decide +kernel, everyDoor _ (fun r => 4115 ∉ r.queue) (by decide +kernel) (by decide)⟩

theorem witness_DoorAndLaneConfiguration :
    let s := hall 83000 .intake
    (let off : DoorFields := { enabled := false, polarity := 1, debounce := 0, callTime := 60, unloadLimit := 1, loadLimit := 4 }
     let t := s.modDoor 5 (fun r => { r with queue := [] })
     t.takes (.setDoor 1 5 off) = true ∧ t.surveying = false ∧ off.polarity = Polarity.presentLow.code ∧
       (t.door 5).enabled = true ∧ (t.door 5).state = .free ∧ (t.door 5).queue = [] ∧
       ∀ c < 128, (t.depot c).enabled = true → (t.depot c).home ≠ some 5) ∧
    (let on : DoorFields := { enabled := true, polarity := 0, debounce := 15, callTime := 1801, unloadLimit := 4, loadLimit := 1 }
     s.takes (.setDoor 1 47 on) = true ∧ (s.door 47).enabled = false ∧ (s.door 47).queue = [] ∧
       on.polarity = Polarity.presentHigh.code) ∧
    (s.takes (.setLane 1 95 (Binding.depot 127).code 49 48) = true ∧ (s.lane 95).holder = none ∧
      (s.lane 95).binding = .none ∧ (s.lane 95).contents = [] ∧ (s.lane 95).reserved = 0 ∧ (s.lane 95).claim = none ∧
      (s.lane 95).tasksOut = 0 ∧ (s.lane 95).state = .off ∧ ∀ d < 127, 95 ∉ (s.depot d).group) ∧
    (s.takes (.setLane 1 90 Binding.hold.code 1 0) = true ∧ (s.lane 90).binding = .hold ∧ (s.lane 90).holder = none) := by
  decide +kernel

/-- An outbound trailer's Announce. -/
def anAnnounce : AnnounceFields :=
  { fleet := 65535, role := 3, origin := 7, near := 15, far := some 7, cls := 2, window := some (0, 86399), tdep := 86399,
    closingLead := 59, switchLead := 7200 }

theorem witness_TrailerRecordCommands :
    let s := hall 83000 .intake
    (s.takes (.announce 1 anAnnounce) = true ∧ s.started = true ∧ s.surveying = false ∧
      anAnnounce.role = Role.outbound.code ∧ (s.classes.get anAnnounce.cls).valid = true ∧ (s.depot 15).enabled = true ∧
      (s.depot 7).enabled = true ∧ s.trailer? 65535 = none ∧ s.trailers.length < 64) ∧
    (s.takes (.amendTrailer 1 3305 { tdep := some 86399, closingLead := some 3601, switchLead := none, far := some 7 }) = true ∧
      (s.trailer? 3305).map TrailerRec.state = some .called ∧ (s.trailer? 3305).map TrailerRec.role = some .swap ∧
      (s.trailer? 3305).map TrailerRec.near = some 15) ∧
    (s.takes (.cancelTrailer 1 3301) = true ∧ (s.trailer? 3301).map TrailerRec.state = some .yard ∧
      (s.trailer? 3301).bind TrailerRec.door = some 5 ∧ (s.pallets.map PalletRec.id).Nodup) := by decide

/-- The hall with a window and a state for trailer 3301, the yard's one. -/
def windowed : State := (hall 80400 .intake).modTrailer 3301 (fun t => { t with window := some (80400, 82800) })

theorem witness_YardQueuesAndCalls :
    let s := hall 80300 .intake
    (s.takes (.gateArrival 1 5001) = true ∧ s.started = true ∧ s.surveying = false ∧
      s.trailer? 5001 = some (aTrailer 5001 .inbound .announced) ∧ (s.depot 7).home = some 3 ∧ (s.door 3).state ≠ .off ∧
      (s.door 3).state ≠ .free) ∧
    ((s.door 20).state ≠ .free ∧ (s.door 5).state = .free ∧ s.working = true ∧
      (s.door 5).queue.find? s.callable = some 3301 ∧ (s.trailer? 3301).isSome = true) ∧
    (let t := dueAt windowed (.windowStart 3301)
     t.live = true ∧ t.isDue (.windowStart 3301) = true ∧ (t.trailer? 3301).bind TrailerRec.door = some 5) ∧
    (let t := dueAt (hall 80300 .idle) (.callTimer 20)
     t.live = true ∧ t.isDue (.callTimer 20) = true ∧ (t.door 20).state = .called ∧ (t.door 20).called = some 3305 ∧
       (t.trailer? 3305).map TrailerRec.lapses = some 0 ∧ t.working = false) ∧
    (let t := (dueAt (hall 80300 .idle) (.callTimer 20)).modTrailer 3305 (fun r => { r with lapses := 1 })
     t.isDue (.callTimer 20) = true ∧ (t.trailer? 3305).map TrailerRec.lapses = some 1) ∧
    (let t := (dueAt (hall 80300 .transfer) (.callTimer 20)).modDoor 20 (fun r => { r with queue := [3301] })
     t.isDue (.callTimer 20) = true ∧ (t.door 20).state = .called ∧ t.working = true ∧
       ((t.door 20).queue ++ [3305]).find? t.callable = some 3301 ∧ (t.trailer? 3301).isSome = true) ∧
    (let t := dueAt (hall 80300 .transfer) (.callTimer 20)
     t.working = true ∧ ((t.door 20).queue ++ [3305]).find? t.callable = some 3305 ∧ (t.door 20).queue.find? t.callable = none) := by
  decide

theorem witness_AtDoorBindsTheTrailer :
    let s := hall 83000 .intake
    s.takes (.atDoor 1 14 5001) = true ∧ s.takes (.atDoor 1 14 3305) = true ∧ s.started = true ∧ s.surveying = false ∧
      (s.door 14).state = .arrived ∧ s.trailer? 5001 = some (aTrailer 5001 .inbound .announced) ∧
      (s.trailer? 3305).map TrailerRec.state = some .called ∧ (s.trailer? 3305).map TrailerRec.role = some .swap ∧
      s.loadPhase = false ∧ (s.door 14).liveNo = none := by decide

theorem witness_EndOfUnloadingEmptiesTheTrailer :
    let s := hall 83000 .intake
    (s.trailer? 3021).map TrailerRec.state = some .unloading ∧ (s.trailer? 3021).bind TrailerRec.door = some 3 ∧
      (s.trailer? 3021).map TrailerRec.role = some .swap ∧ s.loadPhase = false ∧ (s.pallets.map PalletRec.id).Nodup ∧
      (s.takes (.endUnload 1 3021) = true ∧ s.started = true ∧ s.surveying = false) ∧
      (s.hears 4 = true ∧ (s.truck 4).state = .onRun ∧ (s.truck 4).run = some (aRun .unload (.door 3) none) ∧
        (s.door 3).state = .bound ∧ (s.door 3).bound = some 3021) := by decide

theorem witness_TrailersCloseSealAndRunLate :
    (let s := dueAt (hall 17400 .close) (.closing 4115)
     (s.trailer? 4115).map TrailerRec.state = some .loading ∧ (s.trailer? 4115).bind TrailerRec.door = some 9 ∧ s.live = true ∧
       s.isDue (.closing 4115) = true ∧ s.takes (.closeTrailer 1 4115) = true ∧ s.started = true ∧ s.surveying = false) ∧
    (let s := (hall 17400 .close).modTrailer 4115 (fun t => { t with state := .sealed })
     s.takes (.closeTrailer 1 4115) = true ∧ (s.trailer? 4115).map TrailerRec.state = some .sealed) ∧
    (let s := hall 17400 .close
     s.takes (.closeTrailer 1 3021) = true ∧ (s.trailer? 3021).map TrailerRec.state = some .unloading) ∧
    (let s := dueAt (hall 18000 .close) (.tdep 4115)
     s.live = true ∧ s.isDue (.tdep 4115) = true ∧ (s.trailer? 4115).map TrailerRec.state = some .loading) := by decide

/-- The hall with trailer 4115 loading for a far drop. -/
def farDrop : State :=
  let s := (hall 15600 .close).modTrailer 4115 (fun t => { t with far := some 7 })
  s.modDoor 9 (fun r => { r with buffer0 := { r.buffer0 with plan := r.buffer0.plan.map (fun p =>
    { p with far := some 7, drop := .far }) } })

theorem witness_DropSwitchAdvancesTheOpenRow :
    let s := dueAt farDrop (.switch 4115)
    ((s.trailer? 4115).map (·.state.isBound)) = some true ∧ (s.trailer? 4115).bind TrailerRec.buffer = some (9, 0) ∧
      (s.trailer? 4115).bind TrailerRec.door = some 9 ∧ (s.door 9).liveNo = some 0 ∧
      (s.livePlan 9).map Plan.drop = some .far ∧ s.live = true ∧ s.isDue (.switch 4115) = true ∧
      s.takes (.switchDrop 1 4115) = true ∧ s.started = true ∧ s.surveying = false := by decide

/-- Trailer 4115 loads for a far drop with an empty plan. -/
def farEmpty : State :=
  farDrop.modPlan 9 (fun p => { p with rows := p.rows.map (fun _ => { a := [], b := [] }), reserved := 0 })

theorem witness_TrailerRecordCommands_bound :
    let lead := fun x => ({ tdep := none, closingLead := some x, switchLead := none, far := none } : AmendFields)
    let removal : AmendFields := { tdep := some 86399, closingLead := none, switchLead := some 7201, far := some 0 }
    let s := farDrop
    (s.takes (.amendTrailer 1 4115 (lead 3600)) = true ∧ s.started = true ∧ s.surveying = false ∧
      (s.trailer? 4115).map TrailerRec.state = some .loading ∧ (s.trailer? 4115).bind TrailerRec.door = some 9 ∧
      (s.door 9).bound = some 4115 ∧ (lead 3600).tdep = none ∧ (lead 3600).far = none) ∧
    (let t := farEmpty
     t.takes (.amendTrailer 1 4115 removal) = true ∧ t.started = true ∧ t.surveying = false ∧
       (t.trailer? 4115).map TrailerRec.state = some .loading ∧ (t.trailer? 4115).bind TrailerRec.door = some 9 ∧
       (t.trailer? 4115).bind TrailerRec.buffer = some (9, 0) ∧ (t.door 9).bound = some 4115 ∧ (t.door 9).liveNo = some 0 ∧
       (t.livePlan 9).map Plan.drop = some .far ∧ (t.livePlan 9).map Plan.entries = some [] ∧ removal.tdep = some 86399) := by
  decide +kernel

theorem witness_TrailerRecordCommands_refused :
    let s := farDrop
    let far := fun x => ({ tdep := none, closingLead := none, switchLead := none, far := some x } : AmendFields)
    (s.takes (.amendTrailer 1 999 (far 0)) = true ∧ s.started = true ∧ s.surveying = false ∧ s.trailer? 999 = none) ∧
    (s.takes (.amendTrailer 1 4115 (far 128)) = true ∧ (s.trailer? 4115).map TrailerRec.state = some .loading ∧ 127 < 128) ∧
    (s.takes (.amendTrailer 1 4115 (far 127)) = true ∧ (s.trailer? 4115).map TrailerRec.role ≠ some .inbound ∧
      (s.trailer? 4115).map TrailerRec.near = some 15) ∧
    (s.takes (.amendTrailer 1 3305 (far 127)) = true ∧ (s.trailer? 3305).map TrailerRec.role = some .swap ∧
      (s.trailer? 3305).map TrailerRec.near = some 15 ∧ (s.depot 127).enabled = false) ∧
    (s.takes (.amendTrailer 1 4115 (far 0)) = true ∧ (s.trailer? 4115).bind s.planOf = s.livePlan 9 ∧
      (s.livePlan 9).map (fun p => p.entries.isEmpty) = some false) := by decide +kernel

/-- R51, R117: a removed far drop leaves the plan in its near phase, the far drop absent. -/
theorem test_removed_far_drop :
    let t := after (exec (.amendTrailer 1 4115 { tdep := none, closingLead := none, switchLead := none, far := some 0 }) farEmpty)
    (t.livePlan 9).map (fun p => (p.drop, p.far, p.openRow)) = some (.near, none, 1) ∧
      (t.trailer? 4115).map TrailerRec.far = some none := by decide +kernel

theorem witness_CensusAndClassSettings :
    let s := hall 83000 .intake
    (s.takes (.setCensus 1 599 2 901) = true ∧ s.takes (.setCensus 1 0 4 60) = true ∧ s.takes (.setCensus 1 7200 3 900) = true ∧
      s.surveying = false ∧ (hall 70000 .idle).takes (.setCensus 1 7200 1 60) = true ∧ (hall 70000 .idle).inNight = false ∧
      (∀ n < 4, ((hall 70000 .idle).group n).stage = .none) ∧ (surveyOf s).takes (.setCensus 1 0 1 0) = true) ∧
    (let c : ClassFields := { rows := 16, hmax := 18, wmax := 30000, axleX := 8, kmax := 1000, amax := 30000, tiers := 3,
                              dlat := none, pattern := 2, flip := true }
     s.takes (.setClass 1 7 c) = true ∧ c.pattern = SidePattern.paired.code ∧
       (∀ t ∈ s.trailers, t.role ≠ .inbound → t.cls ≠ 7) ∧ s.takes (.setClass 1 8 c) = true ∧
       s.takes (.setClass 1 7 { c with tiers := 0 }) = true) := by decide

theorem witness_LaneOperationsKeepLevels :
    let s := hall 83000 .intake
    (LaneRec.Sound (s.lane 31)) ∧ (s.lane 31).hasRoom = true ∧ 1 ≤ (s.lane 31).reserved ∧ 107 ∉ (s.lane 31).contents :=
  ⟨⟨by decide, by decide, by decide⟩, by decide, by decide, by decide⟩

/-- The lanes of §5.8: depot 21's priority lane 28, ordinary lanes 29 and 30, bays 90 and 91. -/
def staged : State :=
  let s := night 83000 .intake
  let lane := fun (b : Binding) (capacity high members reserved : Nat) => LaneRec.evaluated { LaneRec.reset with
    binding := b, state := .open_, capacity := capacity, high := high, contents := List.range members, reserved := reserved }
  let lanes := s.lanes |>.set 28 (lane (.depot 21) 6 0 5 0) |>.set 29 (lane (.depot 21) 12 8 7 1)
    |>.set 30 (lane (.depot 21) 12 8 4 0) |>.set 90 (lane .hold 10 0 10 0) |>.set 91 (lane .hold 10 0 3 0)
  let s := { s with lanes := lanes }
  s.modDepot 21 (fun r => { r with enabled := true, group := [28, 29, 30], priority := true })

theorem witness_LaneSelection :
    let dep := staged.depot 21
    let room := fun (s : State) l =>
      (s.lane l).binding = .depot 21 ∧ (s.lane l).state = .open_ ∧ (s.lane l).level < (s.lane l).capacity
    let bay := fun (s : State) l =>
      (s.lane l).binding = .hold ∧ (s.lane l).state = .open_ ∧ (s.lane l).level < (s.lane l).capacity
    (dep.priority = true ∧ 2 ≤ dep.group.length ∧ dep.group.head? = some 28 ∧ room staged 28) ∧
    (dep.group.tail = [29] ++ 30 :: [] ∧ room staged 30 ∧ (staged.lane 30).nearlyFull = false ∧
      (staged.lane 29).nearlyFull = true) ∧
    (let s := staged.modLane 30 (fun r => { r with state := .pending })
     dep.group.tail = [] ++ 29 :: [30] ∧ room s 29 ∧ ¬ room s 30 ∧ (s.lane 29).nearlyFull = true) ∧
    (∀ l ∈ ((hall 83000 .intake).depot 7).group, l ∈ ([] : List Nat)) ∧
    (bay staged 91 ∧ ∀ l < 91, ¬ bay staged l) ∧ (∀ l < 96, ¬ bay (night 83000 .intake) l) := by decide +kernel

theorem witness_CensusStartsPendingOrLocked :
    let s := hall 83000 .intake
    ((s.group 2).stage = .none ∧ 1 ≤ s.census.groups ∧ s.takes (.censusNowLane 1 90) = true ∧ s.started = true ∧
      s.surveying = false ∧ (s.lane 90).binding ≠ .none ∧ 90 % s.census.groups = 2 ∧ (s.lane 90).idle = true) ∧
    (31 % s.census.groups = 3 ∧ (s.group 3).stage = .none ∧ (s.lane 31).reserved ≠ 0 ∧ (s.lane 31).binding ≠ .none) ∧
    (s.takes (.censusNowGroup 1 3) = true ∧ s.groupLanes 3 = [31] ∧ s.takes (.censusNowGroup 1 2) = true ∧
      s.groupLanes 2 = [90]) ∧
    (let t := fun phase => dueAt ((hall 81900 phase).modGroup 2 (fun r => { r with nextDue := some 81900 })) (.censusDue 2)
     (t .intake).live = true ∧ (t .intake).isDue (.censusDue 2) = true ∧ ((t .intake).group 2).nextDue = some 81900 ∧
       (t .close).isDue (.censusDue 2) = true ∧ (t .close).clock.phase = .close) := by decide

/-- The hall with the bay LOCKED in a census of its group. -/
def locked : State :=
  ((hall 83000 .transfer).modLane 90 (fun r => { r with state := .locked })).modGroup 2 (fun r =>
    { r with stage := .locked, lanes := [90], timerEnd := some 83300 })

theorem witness_CensusResultsAndTimeouts :
    (let s := locked
     s.takes (.censusResult 1 90 [106, 104].length [106, 104] 0) = true ∧ s.started = true ∧ s.surveying = false ∧
       (s.lane 90).state = .locked ∧ 0 ∉ [106, 104] ∧ [106, 104].Nodup ∧ (∀ p ∈ [106, 104], p ∈ (s.lane 90).contents) ∧
       (s.lane 90).contents.Nodup ∧ (s.pallets.map PalletRec.id).Nodup ∧ 105 ∈ (s.lane 90).contents) ∧
    (let s := dueAt locked (.censusTimeout 2)
     s.live = true ∧ s.isDue (.censusTimeout 2) = true ∧ (s.group 2).stage = .locked ∧ (∀ l ∈ (s.group 2).lanes, l < 96) ∧
       (s.lane 90).state = .locked) := by decide

/-- The class of §6.11: a short trailer with a light kingpin. -/
def shortClass : ClassRec :=
  { rows := 8, hmax := 22, wmax := 7000, axleX := 14, kmax := 3200, amax := 4500, tiers := 1, dlat := none, pattern := .fixed,
    flip := false, valid := true }

/-- A pallet of a weight for a depot, as the planner sees it. -/
def anEntry (p weight dest : Nat) (confirmed : Bool) : Entry :=
  { id := p, weight := weight, height := 10, topLoad := 0, hazard := none, dest := dest, confirmed := confirmed }

/-- The plan after a placement, and the plan itself when it is refused. -/
def placed (p : Plan) (e : Entry) : Plan :=
  match p.place e with
  | .placed q _ => q
  | .refused _ => p

/-- The place a placement gives, or the reason of its refusal. -/
def answerOf (p : Plan) (e : Entry) : Reason ⊕ (Nat × Side × Nat) :=
  match p.place e with
  | .placed _ x => .inr (x.row, x.side, x.tier)
  | .refused r => .inl r

/-- Trailer 6031's plan of §6.11 after step 6. -/
def plan6031 : Plan :=
  let p := { Plan.start { aTrailer 6031 .swap .loading with near := 21, far := some 33 } shortClass 0 with loading := true }
  let p := placed (placed (placed p (anEntry 1 900 33 true)) (anEntry 2 900 33 true)) (anEntry 3 1000 33 true)
  placed (placed p (anEntry 5 600 33 false)) (anEntry 6 400 33 false)

theorem witness_PlanOperationsKeepTheLimits :
    Plan.Sound plan6031 ∧ 1 ≤ plan6031.figures.tiers ∧ plan6031.hasReserved 7 = false ∧
      plan6031.openRow ≤ plan6031.figures.rows ∧ answerOf plan6031 (anEntry 7 20 33 false) = .inr (3, .b, 1) := by
  have none : ∀ r ∈ plan6031.rows, ∀ e ∈ r.entries, e.hazard = none := by decide +kernel
  refine ⟨⟨⟨by decide +kernel, by decide +kernel, by decide +kernel, by decide +kernel, by decide +kernel, by decide +kernel,
    by unfold StackSound; decide +kernel, ?_, by decide +kernel, by decide +kernel, by decide +kernel⟩, by decide +kernel,
    by decide +kernel⟩, by decide +kernel, by decide +kernel, by decide +kernel, rfl⟩
  intro r hr e he e' _ g g' hg
  rw [none r hr e he] at hg
  cases hg

theorem witness_PlanOperationsKeepTheLimits_entries :
    let e := anEntry 6 400 33 false
    (e ∈ plan6031.entries ∧ e.confirmed = false ∧ plan6031.Sound) ∧
      (∀ x ∈ plan6031.entries, x.id = 1 → x.confirmed = true) ∧ (∀ x ∈ plan6031.entries, x.id = 7 → x.confirmed = true) :=
  ⟨⟨by decide +kernel, by decide +kernel, witness_PlanOperationsKeepTheLimits.1⟩, by decide +kernel, by decide +kernel⟩

theorem witness_PlacementTakesTheFirstCandidateThatPasses_stack :
    plan6031.rows.length = plan6031.figures.rows ∧ 1 ≤ plan6031.openRow ∧
      answerOf plan6031 (anEntry 7 20 33 false) = .inr (3, .b, 1) := by decide +kernel

theorem witness_PlacementTakesTheFirstCandidateThatPasses :
    let p := plan6031
    (p.loading = true ∧ (anEntry 7 100 21 false).dest ≠ p.current ∧ (anEntry 7 100 33 false).dest = p.current) ∧
    (p.figures.wmax < p.weight + 3201 ∧ p.weight + 3200 ≤ p.figures.wmax) ∧
    (let e := { anEntry 7 100 33 false with height := 23 }
     p.weight + e.weight ≤ p.figures.wmax ∧ p.figures.hmax < e.height) ∧
    (let full := { p with openRow := 9 }
     full.openRow = full.figures.rows + 1) ∧
    (answerOf p (anEntry 7 20 33 false) matches .inr _) ∧
    (let e := anEntry 7 1200 33 false
     e.height ≤ p.figures.hmax ∧ p.candidates e ≠ [] ∧ ∀ c ∈ p.candidates e, p.failure c e ≠ none) := by decide +kernel

theorem witness_SetDispatchClampsEachSetting :
    let s := hall 83000 .intake
    let low : DispatchSettings :=
      { loadSlots := 0, urgencyLead := 299, offerTime := 10, unloadLimit := 0, loadLimit := 3, relocLimit := 9, laneBase := 901,
        doorBase := 30, directBase := 900, relocBase := 29, changeover := 600 }
    s.takes (.setDispatch 1 low) = true ∧ s.surveying = false ∧ (surveyOf s).takes (.setDispatch 1 low) = true ∧
      (surveyOf s).surveying = true := by decide

/-- The hall with every reply slot taken. -/
def fullReplies (s : State) : State :=
  { s with floor := { s.floor with
      replies := List.replicate 16 { truck := 2, msg := .runOver, onAir := false, opens := false } } }

theorem witness_MessagesThatAreNotHeard :
    let s := hall 83000 .intake
    (Instr.sender (.accept 31) = some 31 ∧ (s.truck 31).state = .off ∧ s.replySlotFree = true ∧
      Instr.sender (.logoff 31) = some 31 ∧ Instr.needsReply (.logoff 31) = false) ∧
    (Instr.sender (.logon 31) = some 31 ∧ Instr.needsReply (.logon 31) = true ∧ (fullReplies s).hears 31 = true ∧
      16 ≤ (fullReplies s).floor.replies.length) := by decide

theorem witness_LogonAnswersByState :
    let s := hall 83000 .intake
    (s.slotFor 31 = true ∧ (s.truck 31).state = .off ∧ s.started = true ∧ s.surveying = false ∧ 31 ∉ s.sched.freeQueue) ∧
    (let t := night 0 .unconfigured
     t.slotFor 0 = true ∧ (t.truck 0).state = .off ∧ t.started = false) ∧
    (s.slotFor 3 = true ∧ (s.truck 3).state = .offered ∧ (s.truck 4).state = .onRun ∧ (s.truck 9).state = .onBreak) ∧
    (s.slotFor 1 = true ∧ (s.truck 1).state = .free ∧ (s.truck 10).state = .absent ∧ 10 ∉ s.sched.freeQueue) := by decide

theorem witness_BreakResumeAndLogoff :
    let s := hall 83000 .intake
    (s.hears 1 = true ∧ (s.truck 1).state = .free ∧ (s.truck 10).state = .absent ∧ (s.truck 3).state = .offered ∧
      3 ∉ s.sched.freeQueue) ∧
    ((s.truck 4).state = .onRun ∧ (s.truck 4).run = some (aRun .unload (.door 3) none) ∧ (s.truck 4).task = none) ∧
    ((s.truck 5).state = .onRun ∧ (s.truck 5).task = some (aTask 107 .unload (.door 3) (.lane 31))) ∧
    ((s.truck 9).state = .onBreak ∧ s.hears 9 = true) ∧
    (s.hears 5 = true ∧ s.pallet? 107 = some (aPallet 107 (.moving 5)) ∧ s.clock.ending = false) := by decide

theorem witness_OffersAreAnswered :
    let s := hall 84700 .transfer
    (s.slotFor 3 = true ∧ 3 ∉ s.sched.freeQueue ∧ (s.truck 3).state = .offered ∧
      (s.truck 3).run = some (aRun .unload (.door 3) none)) ∧
    (s.slotFor 6 = true ∧ (s.truck 6).run = some (aRun .load (.lane 33) (some 9)) ∧ (s.door 9).bound = some 4115 ∧
      (s.lane 33).fifo = true ∧ (s.lane 33).state = .open_ ∧ (s.lane 33).holder = some 6 ∧ (s.lane 33).claim = none ∧
      (s.lane 33).contents.head? = some 111 ∧ (s.lane 33).stalled ≠ some 4115) ∧
    (let t := s.modLane 33 (fun r => { r with stalled := some 4115 })
     (t.truck 6).state = .offered ∧ (t.lane 33).stalled = some ((t.door 9).bound.getD 0)) ∧
    ((s.truck 1).state = .free ∧ (s.truck 9).state = .onBreak ∧ (s.truck 10).state = .absent) ∧
    (s.hears 4 = true ∧ 4 ∉ s.sched.freeQueue ∧ (s.truck 4).state = .onRun ∧ (s.truck 4).task = none ∧
      (s.truck 4).run = some (aRun .unload (.door 3) none)) ∧
    ((s.truck 5).state = .onRun ∧ (s.truck 5).task ≠ none) := by decide

theorem witness_TakesOnUnloadRuns :
    (let s := hall 83000 .intake
     s.slotFor 1 = true ∧ (s.truck 1).state = .free ∧ (s.truck 5).state = .onRun ∧
       (s.truck 5).run = some (aRun .unload (.door 3) none) ∧
       (s.truck 5).task = some (aTask 107 .unload (.door 3) (.lane 31))) ∧
    (let s := hall 83000 .intake
     s.slotFor 4 = true ∧ 4 ∉ s.sched.freeQueue ∧ (s.truck 4).state = .onRun ∧ (s.truck 4).task = none ∧
       (s.truck 4).run = some (aRun .unload (.door 3) none) ∧ (s.door 3).state = .bound ∧ (s.door 3).bound = some 3021 ∧
       (s.trailer? 3021).map TrailerRec.taken = some 0 ∧
       s.pallet? 101 = some { aPallet 101 (.expected 3021) with inbound := some 3021 } ∧ s.loadPhase = false ∧
       s.stagingLane 15 .standard = some 31 ∧
       (s.pallet? 102).map PalletRec.hold = some true ∧ s.bayWithRoom = some 90) ∧
    (let s := { hall 83000 .intake with routes := routed.routes }
     let l : Label := { route := 0x3A41CE, weight := 1500, height := 3, topLoad := 2000, hazard := 7, cls := 1, hold := false }
     s.slotFor 4 = true ∧ (s.truck 4).task = none ∧ s.pallet? 201 = none ∧ s.pallets.length < 4096 ∧ l.fits = true ∧
       s.resolve l.route = .to 15 ∧ s.loadPhase = false ∧ s.stagingLane 15 .standard = some 31) := by decide +kernel

theorem witness_TakesFromLanes :
    (let s := hall 84700 .transfer
     s.slotFor 7 = true ∧ 7 ∉ s.sched.freeQueue ∧ (s.truck 7).state = .onRun ∧ (s.truck 7).task = none ∧
       (s.truck 7).run = some (aRun .load (.lane 31) (some 9)) ∧ s.pallet? 103 = some (aPallet 103 (.staged 31)) ∧
       (s.lane 31).state = .open_ ∧ (s.lane 31).claim = some 7 ∧ (s.lane 31).contents.head? = some 103 ∧
       s.livePlan 9 = some aPlan ∧ (answerOf aPlan ((aPallet 103 (.staged 31)).entry false) matches .inr _) ∧
       s.pallet? 111 = some (aPallet 111 (.staged 33)) ∧ (s.lane 31).contents.head? ≠ some 111) ∧
    (let s := hall 83000 .intake
     s.slotFor 11 = true ∧ 11 ∉ s.sched.freeQueue ∧ (s.truck 11).state = .onRun ∧ (s.truck 11).task = none ∧
       (s.truck 11).run = some (aRun .reloc (.lane 90) none) ∧ (s.lane 90).state = .open_ ∧ 106 ∈ (s.lane 90).contents ∧
       s.pallet? 106 = some (aPallet 106 (.staged 90)) ∧ s.loadPhase = false ∧ s.stagingLane 15 .standard = some 31) := by
  decide +kernel

theorem witness_DropsCompleteTasks :
    (let s := hall 83000 .intake
     s.slotFor 5 = true ∧ 5 ∉ s.sched.freeQueue ∧ (s.truck 5).state = .onRun ∧
       (s.truck 5).task = some (aTask 107 .unload (.door 3) (.lane 31)) ∧ s.pallet? 107 = some (aPallet 107 (.moving 5)) ∧
       s.clock.ending = false ∧ (s.truck 5).run = some (aRun .unload (.door 3) none) ∧ (Location.lane 95).names = true) ∧
    (let s := hall 84700 .transfer
     s.slotFor 8 = true ∧ 8 ∉ s.sched.freeQueue ∧ (s.truck 8).state = .onRun ∧
       (s.truck 8).task = some (aTask 108 .load (.lane 32) (.door 9 1 .a 1)) ∧ (s.door 9).bound = some 4115 ∧
       (s.trailer? 4115).map TrailerRec.loaded = some 0 ∧ s.livePlan 9 = some aPlan ∧
       s.pallet? 108 = some (aPallet 108 (.moving 8)) ∧ s.clock.ending = false) := by decide

theorem witness_LapsedOffersAndExpiredTasks :
    (let s := dueAt ((hall 83000 .intake).modTruck 3 (fun r => { r with offerEnd := some 83000 })) (.offer 3)
     s.live = true ∧ 3 ∉ s.sched.freeQueue ∧ s.isDue (.offer 3) = true ∧ (s.truck 3).state = .offered) ∧
    (let k := { aTask 107 .unload (.door 3) (.lane 31) with open_ := true, deadline := some 83000 }
     let s := dueAt ((hall 83000 .intake).modTruck 5 (fun r => { r with task := some k })) (.deadline 5)
     s.live = true ∧ 5 ∉ s.sched.freeQueue ∧ s.isDue (.deadline 5) = true ∧ (s.truck 5).state = .onRun ∧
       (s.truck 5).task = some k ∧ (s.truck 5).run = some (aRun .unload (.door 3) none) ∧
       s.pallet? k.pallet = some (aPallet 107 (.moving 5)) ∧ s.clock.ending = false) := by decide

theorem witness_LapsedOffersAndExpiredTasks_door :
    let k := { aTask 108 .load (.lane 32) (.door 9 1 .a 1) with open_ := true, deadline := some 84700 }
    let s := dueAt ((hall 84700 .transfer).modTruck 8 (fun r => { r with task := some k })) (.deadline 8)
    s.live = true ∧ 8 ∉ s.sched.freeQueue ∧ s.isDue (.deadline 8) = true ∧ (s.truck 8).state = .onRun ∧
      (s.truck 8).task = some k ∧ (s.truck 8).run = some (aRun .load (.lane 32) (some 9)) ∧
      s.pallet? k.pallet = some (aPallet 108 (.moving 8)) ∧ s.livePlan 9 = some aPlan ∧ aPlan.hasReserved 108 = true ∧
      (s.lane 32).tasksOut = 1 := by decide +kernel

/-- Three free trucks, two LOAD demands and one UNLOAD demand (§7.15). -/
def pairing : State :=
  let s := hall 1420 .transfer
  let s := { s with trucks := Table.fill 32 TruckRec.reset }
  let s := (s.modLane 31 (fun r => { r with holder := none, claim := none })).modLane 33 (fun r => { r with holder := none })
  let free := fun (since : Nat) (last : Option Location) => { aTruck .free none none with freeSince := some since, lastLoc := last }
  let trucks := s.trucks |>.set 5 (free 1400 (some (.lane 33))) |>.set 11 (free 1410 (some (.door 3))) |>.set 2 (free 1415 none)
  { s with trucks := trucks, sched := { s.sched with freeQueue := [5, 11, 2], counter := 3 } }

theorem witness_PairingOffersTheHeadTruck :
    pairing.pairOne.isSome = true ∧ pairing.working = true ∧ pairing.surveying = false ∧
      pairing.sched.freeQueue = 5 :: [11, 2] ∧ pairing.floor.notices = [] ∧ (pairing.truck 5).lastLoc = some (.lane 33) ∧
      (pairing.chooseDemand (some (.lane 33))).map Prod.snd = some false ∧
      (pairing.chooseDemand none).map Prod.snd = some true := by decide +kernel

theorem witness_PairingOffersTheHeadTruck_steps :
    let s := { (hall 83000 .intake).pair with pending := [.logon 2] }
    (s.pallets.map PalletRec.id).Nodup ∧ s.pairOne = none ∧ s.working = true ∧ step s = .next (after (step s)) :=
  ⟨by decide +kernel, by decide +kernel, by decide +kernel, rfl⟩

theorem witness_DemandsAreChosenInOrder :
    let s := pairing
    let load := fun l => ({ kind := .load, source := .lane l, target := some 9 } : Demand)
    let unload : Demand := { kind := .unload, source := .door 3, target := none }
    (s.loadDemands = [load 31, load 33] ∧ s.unloadDemands = [unload] ∧
      s.loadDemands ++ s.unloadDemands ++ s.relocDemands = [load 31] ++ load 33 :: (unload :: s.relocDemands)) ∧
    ((∀ x ∈ s.loadDemands ++ s.unloadDemands ++ s.relocDemands, some x.source ≠ none) ∧
      (∀ x ∈ s.loadDemands, s.urgent x = false) ∧ s.sched.counter < s.sched.settings.loadSlots) ∧
    (let t := hall 17000 .close
     let t := { t with trucks := pairing.trucks, lanes := pairing.lanes }
     t.loadDemands = [] ++ load 31 :: [load 33] ∧ (t.door 9).state = .bound ∧ (t.door 9).bound = some 4115 ∧
       (t.trailer? 4115).map TrailerRec.tdep = some 18000 ∧
       t.offset 18000 ≤ t.offset t.now + t.sched.settings.urgencyLead) ∧
    ((hall 1420 .transfer).loadDemands = [] ∧ { s with sched := { s.sched with counter := 7 } }.sched.settings.loadSlots ≤ 7) ∧
    ((hall 70000 .idle).loadDemands = [] ∧
      ({ hall 70000 .idle with trailers := [] }).unloadDemands = []) := by decide +kernel

theorem witness_SetChannelStoresTheSettings :
    let s := hall 83000 .intake
    let c : ChannelSettings := { rate := 19200, leadIn := 1, burstLimit := 17, guardTime := 20, clearTimeout := 2000 }
    s.takes (.setChannel 1 c) = true ∧ s.surveying = false ∧ s.takes (.setChannel 1 { c with rate := 9601 }) = true ∧
      s.floor.tx = .quiet := by decide

/-- The queues of §8.7: two replies and a notice. -/
def queues : State :=
  let w := fun t msg opens => ({ truck := t, msg := msg, onAir := false, opens := opens } : Waiting)
  let s := hall 2000 .transfer
  { s with floor := { s.floor with
      replies := [w 5 (.dropInstruct 107 (.lane 31)) true, w 2 (.dropOk false 1 none) false]
      notices := [w 3 (.runOffer (aRun .unload (.door 3) none)) false] } }

/-- The transmitter SENDING, the oldest message on the air. -/
def onAir (s : State) : State :=
  { s with floor := ({ s.floor with tx := .sending, leadIn := none } : Floor).chooseMessage }

theorem witness_TransmitterFollowsTheModemLines :
    (txIn queues .keying).live = true ∧ (txIn queues .keying).floor.tx = .keying ∧
      (txIn queues .yielded).floor.tx = .yielded ∧ (txIn queues .sending).floor.tx = .sending ∧
      (txIn queues .holdoff).floor.tx = .holdoff ∧ (txIn queues .guard).floor.tx = .guard ∧ queues.floor.tx = .quiet := by
  decide

theorem witness_BurstsSendMessagesAndReportThem :
    (let s := txIn queues .sending
     let s := { s with floor := { s.floor with leadIn := some 4 } }
     s.live = true ∧ s.floor.tx = .sending ∧ s.floor.leadIn.isSome = true ∧ s.floor.burst < s.floor.settings.burstLimit ∧
       s.floor.replies ≠ []) ∧
    (let s := onAir queues
     let s := { s with floor := { s.floor with burst := 5 } }
     s.floor.onAir.isSome = true ∧ s.floor.settings.burstLimit ≤ s.floor.burst + 1) ∧
    (let s := onAir queues
     let w : Waiting := { truck := 5, msg := .dropInstruct 107 (.lane 31), onAir := true, opens := true }
     s.live = true ∧ s.floor.tx = .sending ∧ s.floor.onAir.isSome = true ∧ s.floor.replies.head? = some w ∧
       (s.truck 5).task = some (aTask 107 .unload (.door 3) (.lane 31)) ∧
       (aTask 107 .unload (.door 3) (.lane 31)).open_ = false) ∧
    (let s := onAir { queues with floor := { queues.floor with replies := [] } }
     let run := aRun .unload (.door 3) none
     let w : Waiting := { truck := 3, msg := .runOffer run, onAir := true, opens := false }
     s.floor.replies.all (fun v => !v.onAir) = true ∧ s.floor.notices = w :: [] ∧ 3 ∉ s.sched.freeQueue ∧
       (s.truck 3).state = .offered ∧ (s.truck 3).run = some run) := by decide

theorem witness_FloorFramesCarryTheirMessages :
    31 < 32 ∧ 4294967295 < 2 ^ 32 ∧ 47 < 48 ∧ 95 < 96 ∧
      Label.fits { route := 0xFFFFFF, weight := 65535, height := 255, topLoad := 65535, hazard := 255, cls := 3, hold := true }
        = true := by decide

/-- A list of `n` ordinary entries, about doors 1 to `n`. -/
def ordinary (n : Nat) : List ExcEntry :=
  (List.range n).map (fun i => ExcEntry.new .wrongDoor (.trailer (i + 1)) 2000 true 0)

/-- A part whose exception list holds the entries given. -/
def listing (second : Nat) (entries : List ExcEntry) : State :=
  { night second .close with exceptions := { entries := entries, changes := 65535 } }

theorem witness_RaisingKeepsOneEntryPerKey :
    (let l := ordinary 5
     l = l.take 2 ++ ExcEntry.new .wrongDoor (.trailer 3) 2000 true 0 :: l.drop 3 ∧
       (∀ y ∈ l.take 2 ++ l.drop 3, ¬ (y.kind = .wrongDoor ∧ y.subject = .trailer 3)) ∧ (l.map ExcEntry.key).Nodup) ∧
    (let fresh := fun l : List ExcEntry => ∀ y ∈ l, ¬ (y.kind = .taskExpired ∧ y.subject = .truck 14)
     let count := fun l : List ExcEntry => (l.filter (fun e => e.kind != .listOverflow)).length
     let overflow := ExcEntry.new .listOverflow .none 2000 true 0
     (fresh (ordinary 62) ∧ count (ordinary 62) < 63) ∧
     (fresh (ordinary 63) ∧ 63 ≤ count (ordinary 63) ∧
       ∀ y ∈ ordinary 63, ¬ (y.kind = .listOverflow ∧ y.subject = .none)) ∧
     (fresh (ordinary 63 ++ [overflow]) ∧ 63 ≤ count (ordinary 63 ++ [overflow]))) := by decide +kernel

theorem witness_ClearingRemovesEntries :
    let s := listing 3033 [ExcEntry.new .noPlace .none 2000 true 7]
    (s.takes (.clearException 1 11 0 0 2) = true ∧ s.surveying = false ∧ s.takes (.clearException 1 20 5 0 0) = true ∧
      s.takes (.clearException 1 19 5 0 0) = true ∧ (surveyOf s).takes (.clearException 1 11 0 0 0) = true) ∧
    (s.exceptions.entries = [] ++ ExcEntry.new .noPlace .none 2000 true 7 :: [] ∧ ExcKind.noPlace.code = 11 ∧
      ExcSubject.none.typeCode = 0 ∧ ExcSubject.none.number = 0 ∧ (ExcEntry.new .noPlace .none 2000 true 7).count = 1) ∧
    (s.takes (.clearExceptionAll 1) = true ∧ s.exceptions.entries ≠ [] ∧ (night 3033 .close).takes (.clearExceptionAll 1) = true ∧
      (night 3033 .close).exceptions.entries = []) := by decide

theorem witness_CommandsAreAnsweredOnce :
    let s := hall 83000 .intake
    ((Instr.queryDoor 1 47).frame?.isSome = true ∧ s.takes (.queryDoor 1 47) = true ∧ Instr.isQuery (.queryDoor 1 47) = true) ∧
    ((Instr.start 1).frame?.isSome = true ∧ (surveyOf s).takes (.start 1) = true ∧ Instr.isQuery (.start 1) = false ∧
      (surveyOf s).surveying = true) := by decide

theorem witness_SummaryAndIdentifyAreAnswered :
    let s := hall 83000 .intake
    s.takes (.queryPalletSummary 1) = true ∧ s.takes (.identify 1) = true ∧
      (s.takes (.restart 1) = true ∧ s.started = true ∧ s.surveying = false) := by decide

theorem witness_QueriesReadTheirRecords :
    let s := hall 83000 .intake
    (s.takes (.queryPallet 1 999) = true ∧ s.pallet? 999 = none ∧ s.pallet? 107 = some (aPallet 107 (.moving 5)) ∧
      (s.truck 5).task.isSome = true ∧ s.pallet? 109 = some (aPallet 109 (.missing (.truck 10)))) ∧
    (s.takes (.queryLane 1 95) = true ∧ s.takes (.queryLane 1 96) = true ∧ s.takes (.queryDoor 1 47) = true ∧
      s.takes (.queryDoor 1 48) = true ∧ s.takes (.queryTrailer 1 5002) = true ∧ s.trailer? 5002 = none ∧
      s.trailer? 5001 = some (aTrailer 5001 .inbound .announced)) ∧
    (s.takes (.queryDepot 1 0) = true ∧ s.takes (.queryDepot 1 1) = true ∧ s.takes (.queryDepot 1 127) = true ∧
      s.takes (.queryDepot 1 128) = true ∧ s.takes (.queryTruck 1 31) = true ∧ s.takes (.queryTruck 1 32) = true) := by decide

theorem witness_SummariesAndListsAreRead :
    let s := hall 83000 .intake
    (s.takes (.queryCensusSummary 1) = true ∧ s.takes (.queryTrailerSummary 1) = true ∧
      s.takes (.querySchedulerSummary 1) = true ∧ (night 83000 .intake).tasks = [] ∧ s.tasks ≠ []) ∧
    (s.takes (.readExceptions 1 0 1) = true ∧ s.takes (.readExceptions 1 64 32) = true ∧
      s.takes (.readExceptions 1 65 1) = true ∧ s.takes (.readExceptions 1 1 33) = true) ∧
    (s.takes (.queryPlan 1 48 0 none) = true ∧ s.takes (.queryPlan 1 47 0 (some 17)) = true ∧ (s.door 47).liveNo = none ∧
      (s.door 47).recent = none ∧ s.takes (.queryPlan 1 9 0 (some 16)) = true ∧ (s.door 9).liveNo = some 0 ∧
      ((s.door 9).buffer 0).plan = some aPlan) ∧
    (let t := s.modDoor 9 (fun r => { r with buffer1 := { state := .frozen, plan := some aPlan }, recent := some 1 })
     t.takes (.queryPlan 1 9 1 none) = true ∧ (t.door 9).recent = some 1 ∧ ((t.door 9).buffer 1).state = .frozen ∧
       ((t.door 9).buffer 1).plan = some aPlan) ∧
    s.takes (.unknownCommand { kind := 0x7F, tag := 1, body := [] }) = true := by decide +kernel

theorem witness_FramesJoinTheReceiveQueue :
    let s := hall 83000 .intake
    (s.live = true ∧ ({ kind := 0x01, tag := 1, body := [] } : Frame).body.length ≤ 1020) ∧
    (let t := { s with link := { s.link with slot := some { kind := 0x81, tag := 1, result := .done, fields := [] } } }
     t.live = true ∧ t.takes (.identify 1) = false ∧ (Instr.identify 1).frame?.isSome = true) ∧
    (1020 < 1021 ∧ 1021 < 65536) ∧
    ((0x00#8) ++ (0x00#8) ≠ crc16 [0, 0, 0x01, 1]) := by decide +kernel

/-- A report being sent, with the notice its end gives. -/
def sendingNotice (s : State) (n : SentNotice) : State :=
  { s with link := { s.link with sending := some { frame := { kind := 0xC4, tag := 0, body := [] }, notice := n } } }

theorem witness_SentFramesGiveTheirNotices :
    let s := (hall 83000 .intake).modTrailer 5001 (fun t => { t with state := .departed })
    let sends := fun n => (sendingNotice s n).live = true ∧
      (sendingNotice s n).link.sending = some { frame := { kind := 0xC4, tag := 0, body := [] }, notice := n }
    sends .none ∧ sends (.departed 5001) ∧ sends (.overrun 31) ∧
      s.trailer? 5001 = some (aTrailer 5001 .inbound .departed) ∧ (s.pallets.map PalletRec.id).Nodup := by decide

/-- The part set up as in §11.5 before Start: doors 0 to 47, lanes and depots; the bays as given. -/
def setUp (bays : List Nat) (clock : NightClock) : State :=
  let s := hall 72000 .idle
  let s := { s with clock := { clock with phase := .unconfigured }, startUp := StartUp.reset .power }
  let s := s.modLane 90 (fun _ => LaneRec.reset)
  bays.foldl (fun s l => s.modLane l (fun r => { r with binding := .hold, state := .open_ })) s

/-- Every lane of every depot's group is bound to it. -/
abbrev LanesGood (s : State) : Prop := ∀ d < 128, ∀ l ∈ (s.depot d).group, (s.lane l).binding = .depot d

/-- No enabled depot has a disabled home door. -/
abbrev DoorsGood (s : State) : Prop :=
  ∀ d < 128, ∀ h < 48, ¬ ((s.depot d).enabled = true ∧ (s.depot d).home = some h ∧ (s.door h).enabled = false)

/-- The interpreter takes a first Start. -/
abbrev StartTaken (s : State) : Prop := s.takes (.start 1) = true ∧ s.surveying = false ∧ s.started = false

theorem witness_StartChecksAndSurveys :
    ((hall 83000 .intake).takes (.start 1) = true ∧ (hall 83000 .intake).started = true) ∧
    (let valid := clockAt 72000 .unconfigured
     StartTaken (setUp [] { valid with valid := false }) ∧ StartTaken (setUp [] { valid with nightValid := false })) ∧
    (let s := (setUp [90] (clockAt 72000 .unconfigured)).modLane 33 (fun r => { r with binding := .hold })
     StartTaken s ∧ (∀ e < 15, ∀ l ∈ (s.depot e).group, (s.lane l).binding = .depot e) ∧
       (s.depot 15).group = [31, 32] ++ 33 :: [] ∧ (s.lane 33).binding ≠ .depot 15 ∧
       ∀ m ∈ [31, 32], (s.lane m).binding = .depot 15) ∧
    (let s := (setUp [90] (clockAt 72000 .unconfigured)).modDoor 3 (fun r => { r with enabled := false })
     StartTaken s ∧ LanesGood s ∧ (s.depot 7).enabled = true ∧ (s.depot 7).home = some 3 ∧ (s.door 3).enabled = false ∧
       ∀ e < 7, (s.depot e).enabled = false) := by decide +kernel

theorem witness_StartChecksAndSurveys_noBay :
    StartTaken (setUp [] (clockAt 72000 .unconfigured)) ∧ LanesGood (setUp [] (clockAt 72000 .unconfigured)) ∧
      DoorsGood (setUp [] (clockAt 72000 .unconfigured)) ∧
      ∀ l < 96, ((setUp [] (clockAt 72000 .unconfigured)).lane l).binding ≠ .hold :=
  ⟨by decide, by decide +kernel, by decide +kernel, by decide +kernel⟩

theorem witness_StartChecksAndSurveys_accepted :
    let s := setUp [90] (clockAt 72000 .unconfigured)
    (StartTaken s ∧ s.clock.valid = true ∧ s.clock.nightValid = true ∧ LanesGood s ∧ DoorsGood s ∧
      (s.lane 90).binding = .hold ∧ (∀ d < 48, (s.door d).debounce ≤ 3) ∧ (s.door 47).debounce = 3) ∧
    (let t := { s with
        startUp := { StartUp.reset .power with survey := some { elapsed := 50000000, total := 50000000 } } }
     t.live = true ∧ t.startUp.survey = some { elapsed := 50000000, total := 50000000 } ∧ (t.door 14).enabled = true ∧
       (t.door 47).enabled = false) :=
  ⟨⟨by decide, by decide, by decide, by decide +kernel, by decide +kernel, by decide, by decide +kernel, by decide⟩,
    by decide⟩

theorem witness_RestartKeepsConfigurationOnly :
    ((night 0 .unconfigured).takes (.restart 1) = true ∧ (night 0 .unconfigured).started = false) ∧
    (let s := surveyOf (hall 83000 .intake)
     s.takes (.restart 1) = true ∧ s.started = true ∧ s.surveying = true) ∧
    (let s := hall 83000 .intake
     s.takes (.restart 1) = true ∧ s.started = true ∧ s.surveying = false) ∧
    (hall 83000 .intake).link.sending = none ∧
    (let s := sendingNotice (hall 83000 .intake) (.overrun 31)
     s.takes (.restart 1) = true ∧ s.started = true ∧ s.surveying = false ∧ s.link.sending ≠ none) := by decide

theorem witness_FramesSpellEveryCommand :
    let good := fun c : Instr => c.wellFormed = true ∧ c.frame?.isSome = true
    good (.manifest 1 5001 newEntries.length newEntries 13) ∧ good (.announce 1 anAnnounce) ∧
      good (.queryPlan 1 255 255 none) ∧ good (.unknownCommand { kind := 0x01, tag := 1, body := [0] }) := by decide +kernel

/-- What holds of the record of every depot from 1 to 127. -/
theorem everyDepot (P : Nat → Prop) (h : ∀ d < 127, P (d + 1)) : ∀ d, 1 ≤ d → d ≤ 127 → P d := by
  intro d h1 h2
  have := h (d - 1) (by omega)
  rwa [show d - 1 + 1 = d by omega] at this

theorem witness_StepsKeepTheCountersEqualToTheRecords :
    State.RecordsCounted { hall 83000 .intake with pending := [.accept 3] } ∧
      step { hall 83000 .intake with pending := [.accept 3] } = .next (after (exec (.accept 3) (hall 83000 .intake))) :=
  ⟨⟨by decide, by decide, everyDepot _ (by unfold State.countersAgree; decide +kernel)⟩, rfl⟩

theorem witness_StepsKeepTheFreeQueueOfFreeTrucks :
    State.QueueSound { hall 83000 .intake with pending := [.logoff 5] } ∧
      step { hall 83000 .intake with pending := [.logoff 5] } = .next (after (exec (.logoff 5) (hall 83000 .intake))) := by
  refine ⟨⟨by decide, fun t => ?_, ?_⟩, rfl⟩
  · by_cases h : t < 32
    · have := (show ∀ t < 32, t ∈ (hall 83000 .intake).sched.freeQueue ↔ ((hall 83000 .intake).truck t).state = .free by
        decide +kernel) t h
      exact ⟨fun x => ⟨h, this.1 x⟩, fun x => this.2 x.2⟩
    · exact ⟨fun x => absurd ((show ∀ t ∈ (hall 83000 .intake).sched.freeQueue, t < 32 by decide) t x) h, fun x => absurd x.1 h⟩
  · unfold TruckRec.Coherent; decide +kernel

theorem witness_StepsKeepTheTablesInForm :
    State.WithinCapacity (hall 83000 .intake) ∧ ExcList.Sound (listing 3020 (ordinary 63)).exceptions ∧
      (hall 83000 .intake).clock.inDay ∧ step (hall 83000 .intake) = .next (hall 83000 .intake).idle :=
  ⟨⟨by decide, by decide, by decide, by decide, by decide⟩,
    ⟨by decide +kernel, by decide +kernel, by decide +kernel, by decide +kernel, by decide⟩,
    by unfold NightClock.inDay; decide, rfl⟩

/-- Lane 30's reconcile of §5.9. -/
def reconcile : State :=
  let s := night 85700 .transfer
  let rec_ := fun p place => { aPallet p place with dest := 21 }
  let lane := fun b capacity st contents =>
    { LaneRec.reset with binding := b, capacity := capacity, state := st, contents := contents }
  let lanes := s.lanes |>.set 30 (lane (.depot 21) 6 .locked [1, 2, 3, 4, 5]) |>.set 34 (lane (.depot 21) 8 .locked [10, 11])
    |>.set 90 (lane .hold 24 .locked [20, 21])
  let s := { s with
    lanes := lanes
    pallets := [1, 2, 3, 4, 5].map (fun p => rec_ p (.staged 30)) ++ [rec_ 10 (.staged 34), rec_ 11 (.staged 34),
      rec_ 20 (.held 90), rec_ 21 (.staged 90), rec_ 30 (.missing (.truck 8))] }
  let s := s.modDepot 21 (fun r => { r with enabled := true, group := [30, 34], staged := 8, held := 1 })
  s.modGroup 2 (fun r => { r with stage := .locked, lanes := [30, 34, 90], timerEnd := some 85862 })

/-! ### Further clauses of the statements -/

theorem witness_IdleAndHeldSteps_pin :
    (txIn held .sending).floor.keyed = true ∧ held.floor.keyed = false ∧ held.live = false := by decide

theorem witness_PhaseEntriesMoveTheNightOn_entries :
    (let s := dueAt (hall 79200 .idle) (.phaseTime .topen)
     s.surveying = false ∧ s.clock.ending = false ∧ s.isDue (.phaseTime .topen) = true ∧ s.census.interval ≠ 0 ∧
       (s.door 5).state = .free ∧ (s.door 5).queue.find? s.callable = some 3301) ∧
    (let s := (hall 86000 .transfer).modTrailer 4115 (fun t => { t with state := .ready })
     s.takes (.advancePhase 1) = true ∧ s.started = true ∧ (s.trailer? 4115).map TrailerRec.state = some .ready ∧
       (s.trailer? 4115).bind TrailerRec.door = some 9 ∧
       (s.trailer? 4115).map (fun t => s.reached t.closingTime) = some false ∧
       ∀ e < 48, (s.door e).bound = some 4115 → (s.livePlan e).map (fun p => s.exhausted p.near) ≠ some true) ∧
    (let s := (hall 86000 .transfer).modDepot 15 (fun r => { r with expected := 0, moving := 0, staged := 0 })
     (s.trailer? 4115).map TrailerRec.state = some .loading ∧ (s.door 9).bound = some 4115 ∧
       (s.livePlan 9).map Plan.drop = some .near ∧ (s.livePlan 9).map (fun p => s.exhausted p.near) = some true) ∧
    (let s := dueAt (hall 19800 .close) (.phaseTime .tend)
     s.isDue (.phaseTime .tend) = true ∧ s.clock.phase = .close ∧ (s.trailer? 4115).map TrailerRec.state = some .loading ∧
       (s.truck 3).state = .offered ∧ (s.truck 4).task = none ∧ (s.truck 4).state = .onRun ∧ (s.truck 5).task ≠ none) := by
  decide +kernel

theorem witness_SetDepotWritesFourFields_refusals :
    let s := hall 83000 .intake
    let f : DepotFields := { enabled := true, home := some 9, group := [31, 33], priority := true }
    let off : DepotFields := { enabled := false, home := none, group := [], priority := false }
    (s.takes (.setDepot 1 15 { f with home := some 48 }) = true ∧ s.surveying = false ∧ s.started = true) ∧
    ((surveyOf s).takes (.setDepot 1 15 f) = true ∧ (surveyOf s).surveying = true) ∧
    (∃ l ∈ { f with group := [31, 90] }.group, (s.lane l).binding ≠ .depot 15) ∧
    ((s.door 47).state = .off) ∧
    ((s.depot 15).enabled = true ∧ off.enabled = false ∧ (s.depot 15).staged ≠ 0) ∧
    ((s.depot 7).enabled = true ∧ (s.depot 7).expected = 0 ∧ (s.depot 7).moving = 0 ∧ (s.depot 7).staged = 0 ∧
      (s.depot 7).held = 0 ∧ (s.depot 7).loaded = 0 ∧ (∀ r ∈ s.pallets, r.dest ≠ 7) ∧ ∃ t ∈ s.trailers, t.origin = 7) := by
  decide +kernel

theorem witness_ManifestCreatesExpectedRecords_refusals :
    let s := hall 83000 .intake
    let bad := newEntries.map (fun e => { e with id := 0 })
    let twice := newEntries ++ newEntries
    (s.takes (.manifest 1 5001 65 newEntries 0) = true ∧ 64 < 65 ∧ newEntries.length ≠ 65) ∧
    (s.takes (.manifest 1 5001 2 bad 0) = true ∧ ∃ e rest, bad = [] ++ e :: rest ∧ e.id = 0) ∧
    (s.takes (.manifest 1 5001 4 twice 0) = true ∧ twice.length = 4 ∧ s.pallets.length + 2 ≤ 4096 ∧
      firstOf ((twice.map ManifestEntry.id).filter (fun p => (s.pallet? p).isNone)) = [201, 202]) ∧
    (s.takes (.manifest 1 5001 1 (newEntries.take 1) 0) = true ∧ s.pallet? 201 = none ∧ s.pallets.length < 4096 ∧
      s.resolve 0x3A41CE = .noMatch) :=
  ⟨by decide, ⟨by decide, _, _, rfl, rfl⟩, by decide, by decide +kernel⟩

theorem witness_ManifestCreatesExpectedRecords_full :
    let pallets := (List.range 4095).map (fun i => { aPallet (i + 1001) (.staged 31) with dest := 0 })
    let s := { hall 83000 .intake with pallets := pallets }
    s.takes (.manifest 1 5001 2 newEntries 0) = true ∧ s.pallets.length + 1 = 4096 ∧ s.pallet? 202 = none ∧
      firstOf (((newEntries.take 1).map ManifestEntry.id).filter (fun p => (s.pallet? p).isNone)) = [201] ∧
      202 ∉ (newEntries.take 1).map ManifestEntry.id := by decide +kernel

theorem witness_SenseLinesMoveDoors_counts :
    let s := hall 83000 .intake
    let begun := s.modDoor 5 (fun r => { r with count := some { elapsed := 1, total := 30000000 } })
    s.live = true ∧ (s.door 5).count = none ∧ (s.door 5).present = false ∧ (s.door 5).polarity = .presentHigh ∧
      (begun.door 5).count = some { elapsed := 1, total := 30000000 } ∧
      ((counted s 5 false).door 5).count = some { elapsed := 30000000, total := 30000000 } := by decide

theorem witness_AbsentLineUnderATrailerIsItsDeparture_redirect :
    let s := hall 84700 .transfer
    let k := aTask 108 .load (.lane 32) (.door 9 1 .a 1)
    let u := fun s : State => (s.modPlan 9 (fun p => p.release 108)).sealCheckDoor 9
    (s.truck 8).state = .onRun ∧ (s.truck 8).task = some k ∧ (s.truck 8).run = some (aRun .load (.lane 32) (some 9)) ∧
      k.target.location = .door 9 ∧ s.pallet? 108 = some (aPallet 108 (.moving 8)) ∧
      ((u s).decideTarget (aPallet 108 (.moving 8)) (some 9)).1 = some (.lane 31) ∧
      (let t := { s with lanes := s.lanes.map (fun r => { r with state := .locked }) }
       ((u t).decideTarget (aPallet 108 (.moving 8)) (some 9)).1 = none) ∧
      (let t := counted s 3 true
       (t.trailer? 3021).map TrailerRec.state = some .unloading ∧ t.clock.ending = false ∧
         (t.pallets.map PalletRec.id).Nodup ∧ aPallet 101 (.expected 3021) ∈ t.pallets.map (fun r => { r with inbound := none })) := by
  decide +kernel

theorem witness_AbsentLineUnderATrailerIsItsDeparture_steps :
    let s := counted (hall 84700 .transfer) 9 true
    let k := aTask 108 .load (.lane 32) (.door 9 1 .a 1)
    (s.live = true ∧ s.started = true ∧ s.surveying = false ∧ (s.door 9).present = true ∧ (s.door 9).state = .bound ∧
      (s.door 9).bound = some 4115 ∧ (s.trailer? 4115).map TrailerRec.state = some .loading ∧ 8 ∉ s.sched.freeQueue ∧
      (s.truck 8).state = .onRun ∧ (s.truck 8).task = some k ∧ (s.truck 8).run = some (aRun .load (.lane 32) (some 9)) ∧
      s.pallet? 108 = some (aPallet 108 (.moving 8)) ∧ (∀ m < 32, m ≠ 8 → ∀ k ∈ (s.truck m).task, k.target.location ≠ .door 9)) ∧
    (s.directDoors 15 (some 9) = [] ∧ (s.stagingLane 15 .standard).or s.bayWithRoom = some 31 ∧
      (s.modPallet 108 (fun r => { r with dest := 0 })).bayWithRoom = some 90) ∧
    (let locked : State := { s with lanes := s.lanes.map (fun r => { r with state := .locked }) }
     locked.clock.ending = false ∧ (locked.stagingLane 15 .standard).or locked.bayWithRoom = none) := by decide +kernel

/-- The hall with a census of lane 32 that waits for the task out of it. -/
def counting : State := after (exec (.censusNowLane 1 32) (hall 84700 .transfer))

theorem witness_AbsentLineUnderATrailerIsItsDeparture_held :
    (State.LanesHeld (counted (hall 84700 .transfer) 9 true) ∧ State.CensusSound (counted (hall 84700 .transfer) 9 true)) ∧
    ((counted counting 9 true).group 0).stage = .pending ∧ ((counted counting 9 true).group 0).lanes = [32] ∧
      State.CensusSound (counted counting 9 true) :=
  ⟨⟨⟨by decide +kernel, by decide +kernel, by decide +kernel⟩, by decide +kernel, by decide +kernel⟩, by decide +kernel,
    by decide +kernel, by decide +kernel, by decide +kernel⟩

theorem witness_TrailersCloseSealAndRunLate_seal :
    let s := (hall 17400 .close).modTrailer 4115 (fun t => { t with state := .closing })
    let s := s.modTruck 8 (fun r => { r with task := none })
    let s := s.modPlan 9 (fun p => p.confirm 108)
    (s.trailer? 4115).map TrailerRec.state = some .closing ∧ (s.trailer? 4115).bind TrailerRec.door = some 9 ∧
      (s.livePlan 9).map Plan.reserved = some 0 ∧ s.taskTargets 9 = false ∧
      (s.livePlan 9).map (fun p => (p.rows.reverse.dropWhile (fun x => x.a.isEmpty && x.b.isEmpty)).length) = some 1 := by
  decide +kernel

theorem witness_LaneOperationsKeepLevels_steps : State.LanesHeld { hall 83000 .intake with pending := [.drop 5 107 (.lane 31)] } :=
  ⟨by decide +kernel, by decide +kernel, by decide +kernel⟩

theorem witness_LaneSelection_overflow :
    let room := fun (s : State) l =>
      (s.lane l).binding = .depot 21 ∧ (s.lane l).state = .open_ ∧ (s.lane l).level < (s.lane l).capacity
    let s := (staged.modLane 29 (fun r => { r with state := .locked })).modLane 30 (fun r => { r with state := .locked })
    let none := s.modLane 28 (fun r => { r with state := .locked })
    staged.stagingLane 21 .standard = some 30 ∧ (s.depot 21).group = 28 :: [29, 30] ∧ room s 28 ∧
      (∀ l ∈ (s.depot 21).group.tail, ¬ room s l) ∧ s.stagingLane 21 .standard = Option.none ∧
      (∀ l ∈ (none.depot 21).group, ¬ room none l) ∧ none.stagingLane 21 .premium = Option.none := by decide +kernel

theorem witness_CensusResultsAndTimeouts_moves :
    let s := reconcile
    let listed := (s.lane 30).contents ++ [30]
    (s.takes (.censusResult 1 30 listed.length listed 0) = true ∧ s.started = true ∧ s.surveying = false ∧
      (s.lane 30).state = .locked ∧ 0 ∉ listed ∧ listed.Nodup ∧ (s.pallets.map PalletRec.id).Nodup ∧
      (s.lane 30).level < (s.lane 30).capacity ∧ (s.pallet? 30).map PalletRec.place = some (.missing (.truck 8)) ∧
      (s.pallet? 11).map PalletRec.place = some (.staged 34)) ∧
    (s.pallet? 99 = none ∧ 99 ∉ (s.lane 30).contents) ∧
    (let t := s.modLane 30 (fun r => { r with capacity := 5 })
     (t.lane 30).capacity ≤ (t.lane 30).level) := by decide +kernel

/-- The two plans that the hall holds. -/
def hallPlans : List Plan := [Plan.start (aTrailer 3021 .swap .unloading) aClass 0, aPlan]

theorem test_hallPlans_bounded (p : Plan) (hp : p ∈ hallPlans) : p.Bounded := by
  have hazards : ∀ p ∈ hallPlans, ∀ row ∈ p.rows, ∀ e ∈ row.entries, e.hazard = none := by decide +kernel
  have rest : ∀ p ∈ hallPlans, p.rows.length = p.figures.rows ∧ p.weight = stackWeight p.entries ∧
      p.moment = momentFrom 1 p.rows ∧ p.weightA = stackWeight (p.onSide .a) ∧ p.weightB = stackWeight (p.onSide .b) ∧
      p.weight ≤ p.figures.wmax ∧ (∀ row ∈ p.rows, StackSound p.figures row.a ∧ StackSound p.figures row.b) ∧
      (1 ≤ p.openRow ∧ p.openRow ≤ p.figures.rows + 1) ∧ (∀ row ∈ p.rows.drop p.openRow, row.entries = []) ∧
      p.lost = ((p.rows.take (p.openRow - 1)).map PlanRow.empties).sum := by
    unfold StackSound
    decide +kernel
  obtain ⟨size, weight, moment, weightA, weightB, payload, standing, opened, beyond, lost⟩ := rest p hp
  exact ⟨size, weight, moment, weightA, weightB, payload, standing,
    fun row hr x hx _ _ _ _ hu => (by rw [hazards p hp row hr x hx] at hu; cases hu), opened, beyond, lost⟩

theorem test_hall_plans (d b : Nat) (p : Plan) (h : (((hall 83000 .intake).door d).buffer b).plan = some p) :
    p ∈ hallPlans := by
  have doors : ∀ d < 48, (∀ p ∈ ((hall 83000 .intake).door d).buffer0.plan.toList, p ∈ hallPlans) ∧
      ∀ p ∈ ((hall 83000 .intake).door d).buffer1.plan.toList, p ∈ hallPlans := by decide +kernel
  have both := everyDoor (hall 83000 .intake)
    (fun r => (∀ p ∈ r.buffer0.plan.toList, p ∈ hallPlans) ∧ ∀ p ∈ r.buffer1.plan.toList, p ∈ hallPlans) doors
    (by decide +kernel) d
  unfold DoorRec.buffer at h
  split at h
  · exact both.1 p (by simp [h])
  · exact both.2 p (by simp [h])

theorem witness_PlanOperationsKeepTheLimits_steps :
    State.PlansHeld { hall 83000 .intake with pending := [.closeTrailer 1 4115] } := by
  have figures : ∀ p ∈ hallPlans, 1 ≤ p.figures.tiers ∧ p.openRow ≤ p.figures.rows := by decide +kernel
  refine ⟨fun c h => ?_, fun d b p h => test_hallPlans_bounded p (test_hall_plans d b p h),
    fun d b p h _ => (figures p (test_hall_plans d b p h)).1, fun d b p h _ _ => (figures p (test_hall_plans d b p h)).2⟩
  change 0 < ((hall 83000 .intake).classes.get c).rows at h
  change 1 ≤ ((hall 83000 .intake).classes.get c).tiers
  by_cases hc : c < 8
  · exact (show ∀ c < 8, 0 < ((hall 83000 .intake).classes.get c).rows → 1 ≤ ((hall 83000 .intake).classes.get c).tiers by
      decide +kernel) c hc h
  · have none : (hall 83000 .intake).classes.get c = default := by
      simp only [Table.get, List.getD_eq_getElem?_getD]
      rw [List.getElem?_eq_none (by rw [(hall 83000 .intake).classes.size]; omega)]
      rfl
    rw [none] at h
    exact absurd h (by decide)

theorem witness_PlacementTakesTheFirstCandidateThatPasses_some :
    let e := anEntry 7 20 33 false
    (∃ c ∈ plan6031.candidates e, plan6031.failure c e = none) ∧ { plan6031 with openRow := 9 }.candidates e = [] ∧
      plan6031.weight + e.weight ≤ plan6031.figures.wmax ∧ e.height ≤ plan6031.figures.hmax := by decide +kernel

theorem witness_MessagesThatAreNotHeard_idle :
    let s := fullReplies (hall 83000 .intake)
    s.link.sending = none ∧ s.link.slot = none ∧ s.link.reports = [] ∧
      (sendingNotice s (.overrun 31)).link.sending.isSome = true := by decide

theorem witness_BreakResumeAndLogoff_tail :
    let s := hall 70000 .idle
    s.hears 9 = true ∧ (s.truck 9).state = .onBreak ∧ 9 ∉ s.sched.freeQueue ∧ s.working = false := by decide

theorem witness_BreakResumeAndLogoff_door :
    let s := hall 84700 .transfer
    s.hears 8 = true ∧ (s.truck 8).state ≠ .off ∧ (s.truck 8).task = some (aTask 108 .load (.lane 32) (.door 9 1 .a 1)) ∧
      s.livePlan 9 = some aPlan ∧ aPlan.hasReserved 108 = true := by decide +kernel

theorem witness_TakesOnUnloadRuns_refusals :
    (let s := hall 70000 .idle
     s.slotFor 4 = true ∧ 4 ∉ s.sched.freeQueue ∧ (s.trailer? 3021).map TrailerRec.state = some .unloading ∧ s.working = false ∧
       (s.pallet? 103).map (·.place.state) = some .staged ∧ s.pallet? 201 = none) ∧
    (let s := { hall 70000 .idle with lanes := State.reset.lanes }
     (s.pallet? 102).map PalletRec.hold = some true ∧ s.bayWithRoom = none ∧ s.working = false) ∧
    (let s := (hall 83000 .intake).modPallet 102 (fun r => { r with place := .expected 5001 })
     s.pallet? 102 = some { aPallet 102 (.expected 5001) with inbound := some 3021, hold := true } ∧ 5001 ≠ 3021 ∧
       s.trailer? 5001 = some (aTrailer 5001 .inbound .announced) ∧ s.bayWithRoom = some 90) ∧
    (let s := hall 84700 .transfer
     s.pallet? 101 = some { aPallet 101 (.expected 3021) with inbound := some 3021 } ∧ s.loadPhase = true ∧
       s.directDoors 15 none = 9 :: [] ∧ s.livePlan 9 = some aPlan ∧
       (answerOf aPlan ((aPallet 101 (.expected 3021)).entry false) matches .inr _)) := by decide +kernel

theorem witness_TakesOnUnloadRuns_full :
    let pallets := (List.range 4096).map (fun i => { aPallet (i + 1001) (.staged 31) with dest := 0 })
    let s := { hall 70000 .idle with pallets := pallets }
    s.slotFor 4 = true ∧ s.pallet? 201 = none ∧ 4096 ≤ s.pallets.length ∧ s.working = false := by decide +kernel

theorem witness_TakesFromLanes_refusals :
    let e := (aPallet 103 (.staged 31)).entry false
    (let s := hall 70000 .idle
     s.slotFor 7 = true ∧ 7 ∉ s.sched.freeQueue ∧ s.working = false ∧ (s.door 9).bound = some 4115 ∧
       (s.trailer? 4115).map TrailerRec.state = some .loading ∧ (s.trailer? 4115).bind TrailerRec.door = some 9 ∧
       (s.lane 31).state = .open_ ∧ (s.lane 31).claim = some 7 ∧ (s.lane 31).holder = some 7 ∧
       (s.lane 31).contents.head? = some 103) ∧
    (answerOf { aPlan with openRow := 14 } e = .inl .noRoom ∧ answerOf { aPlan with loading := false } e = .inl .drop) ∧
    (let s := hall 70000 .idle
     s.slotFor 11 = true ∧ 11 ∉ s.sched.freeQueue ∧ (s.truck 11).run = some (aRun .reloc (.lane 90) none) ∧
       999 ∉ (s.lane 90).contents ∧ 104 ∈ (s.lane 90).contents ∧ (s.pallet? 104).map PalletRec.place = some (.held 90)) ∧
    (let s := (hall 70000 .idle).modLane 90 (fun r => { r with capacity := 0 })
     let s := ((s.modLane 31 (fun r => { r with state := .locked })).modLane 32 (fun r => { r with state := .locked })).modLane 33
       (fun r => { r with state := .locked })
     (s.lane 90).state = .open_ ∧ 106 ∈ (s.lane 90).contents ∧ s.loadPhase = false ∧ s.stagingLane 15 .standard = none ∧
       s.bayWithRoom = none) := by decide +kernel

theorem witness_DropsCompleteTasks_runs :
    let k := aTask 106 .reloc (.lane 90) (.lane 31)
    let s := ((hall 70000 .idle).modTruck 11 (fun r => { r with task := some k })).modPallet 106 (fun r =>
      { r with place := .moving 11 })
    let s := s.modLane 90 (fun r => { r with contents := [104, 105] })
    (s.slotFor 11 = true ∧ (s.truck 11).run = some (aRun .reloc (.lane 90) none) ∧ (s.truck 11).task = some k ∧
      s.working = false ∧ (s.completeTask 11 k).relocates 90 (some 11) = false) ∧
    (let t := hall 84700 .transfer
     let t := t.modLane 32 (fun r => { r with contents := [103], holder := some 8 })
     let u := t.completeTask 8 (aTask 108 .load (.lane 32) (.door 9 1 .a 1))
     (u.truck 8).run = some (aRun .load (.lane 32) (some 9)) ∧ (u.boundAt 9).map TrailerRec.state = some .loading ∧
       (u.livePlan 9).map (fun q => decide (32 ∈ (u.depot q.current).group)) = some true ∧ (u.lane 32).fifo = true ∧
       (u.lane 32).holder = some 8 ∧ (u.lane 32).claim = none ∧ (u.lane 32).contents.head? = some 103) := by decide +kernel

theorem witness_DropsCompleteTasks_others :
    let s := (hall 70000 .idle).modPallet 109 (fun r => { r with place := .missing (.truck 9) })
    s.slotFor 9 = true ∧ 9 ∉ s.sched.freeQueue ∧ (s.truck 9).state = .onBreak ∧ s.working = false ∧ s.pallet? 999 = none ∧
      (s.pallet? 103).map PalletRec.place = some (.staged 31) ∧
      (s.pallet? 109).map PalletRec.place = some (.missing (.truck 9)) ∧ (s.lane 31).state = .open_ ∧
      (s.lane 31).binding = .depot 15 ∧ (s.lane 31).level < (s.lane 31).capacity ∧ (s.lane 95).state ≠ .open_ ∧
      (s.door 9).state = .bound ∧ (s.trailer? 4115).map TrailerRec.state = some .loading ∧ s.livePlan 9 = some aPlan ∧
      (answerOf aPlan ((aPallet 109 (.missing (.truck 9))).entry true) matches .inr _) ∧ (s.door 14).state ≠ .bound := by
  decide +kernel

/-- In the working night: a state in which no pairing is possible, and one in which each refusal can meet one. -/
theorem witness_TakesOnUnloadRuns_working :
    (let s := { hall 83000 .intake with sched := { (hall 83000 .intake).sched with freeQueue := [] } }
     s.working = true ∧ s.pairOne = none ∧ s.slotFor 4 = true ∧ 4 ∉ s.sched.freeQueue ∧
       (s.pallet? 103).map (·.place.state) = some .staged ∧ s.pallet? 201 = none ∧ s.pallets.length < 4096) ∧
    (let s := (hall 84700 .transfer).modLane 90 (fun r => { r with capacity := 0 })
     let s := s.modPallet 101 (fun r => { r with dest := 7 })
     s.working = true ∧ s.loadPhase = true ∧ s.directDoors 7 none = [] ∧ s.stagingLane 7 .standard = none ∧
       s.bayWithRoom = none ∧ (s.pallet? 101).map PalletRec.place = some (.expected 3021)) := by decide +kernel

theorem witness_TakesFromLanes_rebound :
    let s := (hall 83000 .intake).modLane 90 (fun r => { r with binding := .depot 15 })
    s.slotFor 11 = true ∧ 11 ∉ s.sched.freeQueue ∧ (s.truck 11).state = .onRun ∧ (s.truck 11).task = none ∧
      (s.truck 11).run = some (aRun .reloc (.lane 90) none) ∧ (s.lane 90).binding ≠ .hold ∧ (s.lane 90).state = .open_ ∧
      s.pallet? 106 = some (aPallet 106 (.staged 90)) ∧ (hall 83000 .intake |>.lane 90).binding = .hold := by decide

/-- R87 grants a bay take from a bay only. -/
theorem test_relocate_needs_a_bay :
    let refused := ({ truck := 11, msg := .refused 106 .wrongPallet, onAir := false, opens := false } : Waiting)
    let take := fun s => (after (exec (.take 11 106 none) s)).floor.replies
    take ((hall 83000 .intake).modLane 90 (fun r => { r with binding := .depot 15 })) = [refused] ∧
      take (hall 83000 .intake) ≠ [refused] := by decide +kernel

theorem witness_TakesFromLanes_working :
    (let s := hall 84700 .transfer
     s.working = true ∧ s.slotFor 7 = true ∧ 7 ∉ s.sched.freeQueue ∧ (s.trailer? 4115).bind TrailerRec.door = some 9 ∧
       (s.lane 31).claim = some 7 ∧ (s.lane 31).holder = some 7 ∧ (s.truck 8).state = .onRun ∧
       (s.lane 31).claim ≠ some 8 ∧ s.pallet? 999 = none) ∧
    (let s := (hall 84700 .transfer).modPallet 106 (fun r => { r with dest := 7 })
     s.slotFor 11 = true ∧ s.directDoors 7 none = [] ∧ s.loadPhase = true) := by decide +kernel

/-- The worked case of §7.16: the truck is ABSENT, and its pallet MISSING, last known there. -/
theorem witness_DropsCompleteTasks_late :
    (let s := hall 84700 .transfer
     s.working = true ∧ s.slotFor 10 = true ∧ (s.truck 10).state = .absent ∧ (s.truck 10).task = none ∧
       (s.pallet? 109).map PalletRec.place = some (.missing (.truck 10)) ∧ (s.lane 31).level < (s.lane 31).capacity ∧
       (s.trailer? 4115).map TrailerRec.state = some .loading ∧ s.livePlan 9 = some aPlan ∧
       (answerOf aPlan ((aPallet 109 (.missing (.truck 10))).entry true) matches .inr _) ∧
       answerOf { aPlan with openRow := 14 } ((aPallet 109 (.missing (.truck 10))).entry true) = .inl .noRoom ∧
       (s.truck 1).state = .free ∧ 1 ∈ s.sched.freeQueue ∧ (s.trailer? 3021).map TrailerRec.state = some .unloading) ∧
    (let s := hall 83000 .intake
     s.slotFor 8 = true ∧ (s.truck 8).task = some (aTask 108 .load (.lane 32) (.door 9 1 .a 1)) ∧
       (Target.door 9 1 .a 1).location ≠ .door 3) := by decide +kernel

/-- The part in its ending, with the task of truck `n` the only one open. -/
def lastTask (s : State) (n : Nat) : State :=
  ending { s with trucks := (s.trucks.map (fun r => { r with task := none })).set n (s.truck n) }

theorem witness_RolloverAgesWhatStays_last :
    (let s := lastTask (hall 19900 .close) 5
     let task := aTask 107 .unload (.door 3) (.lane 31)
     s.live = true ∧ s.clock.ending = true ∧ s.tasks = [(5, task)] ∧ s.pallet? 107 = some (aPallet 107 (.moving 5)) ∧
       s.slotFor 5 = true ∧ s.hears 5 = true ∧ (s.truck 5).state = .onRun ∧ task.target.location = .lane 31 ∧
       (Location.lane 31).names = true ∧ (s.pallet? 103).map (·.place.state) = some .staged ∧
       (let open_ := { task with open_ := true, deadline := some 19900 }
        let t := dueAt (s.modTruck 5 (fun r => { r with task := some open_ })) (.deadline 5)
        t.tasks = [(5, open_)] ∧ t.isDue (.deadline 5) = true)) ∧
    (let s := counted (lastTask (hall 19900 .close) 8) 9 true
     let s := s.modTrailer 4115 (fun t => { t with state := .closing })
     let s : State := { s with lanes := s.lanes.map (fun r => { r with state := .locked }) }
     s.tasks = [(8, aTask 108 .load (.lane 32) (.door 9 1 .a 1))] ∧ s.pallet? 108 = some (aPallet 108 (.moving 8)) ∧
       s.started = true ∧ s.surveying = false ∧ (s.door 9).present = true ∧ (s.door 9).state = .bound ∧
       (s.door 9).bound = some 4115 ∧ (s.trailer? 4115).map TrailerRec.state = some .closing ∧ s.bayWithRoom = none ∧
       s.directDoors 15 (some 9) = [] ∧ s.stagingLane 15 .standard = none) := by decide +kernel

/-- Three labels: one out of range in two fields, one out of range and without a route, and one without a route. -/
def labelled : List ManifestEntry :=
  let label : Label := { route := 0x3A41CE, weight := 0, height := 2, topLoad := 100, hazard := 0, cls := 1, hold := false }
  [{ id := 303, label := label }, { id := 301, label := { label with weight := 1600, height := 5, route := 0x111111 } },
    { id := 302, label := { label with weight := 5, height := 5 } }]

theorem witness_ManifestCreatesExpectedRecords_labels :
    let s := hall 83000 .intake
    s.takes (.manifest 1 5001 3 labelled 0) = true ∧ labelled.length = 3 ∧ (labelled.map ManifestEntry.id).Nodup ∧
      (∀ e ∈ labelled, e.id ≠ 0 ∧ e.label.hazard ≤ 7 ∧ (e.label.cls = 1 ∨ e.label.cls = 2) ∧ s.pallet? e.id = none) ∧
      ∃ sorted : List ManifestEntry, sorted.Perm labelled ∧ sorted.Pairwise (fun x y => x.id < y.id) :=
  ⟨by decide, by decide, by decide, by decide, labelled.drop 1 ++ labelled.take 1, by decide, by decide⟩

theorem witness_AbsentLineUnderATrailerIsItsDeparture_stalled :
    let s := counted ((hall 83000 .transfer).modLane 33 (fun r => { r with stalled := some 4115 })) 9 true
    (s.lane 33).stalled = some 4115 ∧ (s.door 9).bound = some 4115 := by decide

theorem witness_AbsentLineUnderATrailerIsItsDeparture_frozen :
    let s := counted (hall 84700 .transfer) 9 true
    ((s.door 9).liveNo = some 0 ∧ s.livePlan 9 = some aPlan ∧ aPlan.hasReserved 108 = true) ∧ aPlan.Sound :=
  ⟨by decide +kernel, { test_hallPlans_bounded aPlan (by decide +kernel) with
    reserved := by decide +kernel, ids := by decide +kernel }⟩

theorem witness_DropSwitchAdvancesTheOpenRow_stalled :
    let s := farDrop.modLane 33 (fun r => { r with stalled := some 4115 })
    (s.lane 33).stalled = some 4115 ∧ (s.livePlan 9).map Plan.fleet = some 4115 := by decide

theorem witness_DoorAndLaneConfiguration_others : (hall 83000 .intake).LanesHeld :=
  ⟨by decide +kernel, by decide +kernel, by decide +kernel⟩

/-- Trailer 3301 has lapsed once and is expected at door 14. -/
def expecting (s : State) : State :=
  (s.modDoor 14 (fun r => { r with called := some 3301 })).modTrailer 3301 (fun t =>
    { t with state := .called, lapses := 1, door := some 14 })

/-- Trailer 5001 is OUTBOUND, with a far drop. -/
def outbound (s : State) : State := s.modTrailer 5001 (fun t => { t with role := .outbound, near := 15, far := some 7 })

theorem witness_AtDoorBindsTheTrailer_others :
    (let s := expecting (hall 83000 .intake)
     s.takes (.atDoor 1 14 3305) = true ∧ (s.door 14).called = some 3301 ∧ (s.trailer? 3301).isSome = true ∧
       (s.trailer? 3305).bind TrailerRec.door = some 20 ∧ (s.door 20).state = .called ∧
       (expecting (hall 70000 .idle)).working = false) ∧
    (let s := (hall 83000 .intake).modDoor 20 (fun r => { r with state := .arrived })
     (s.door 20).state ≠ .called ∧ (s.trailer? 3305).map TrailerRec.state = some .called) ∧
    ((hall 83000 .intake).takes (.atDoor 1 14 3301) = true ∧
      ((hall 83000 .intake).trailer? 3301).map TrailerRec.state = some .yard) := by decide

theorem witness_AtDoorBindsTheTrailer_loads :
    (let s := outbound (hall 84700 .transfer)
     s.takes (.atDoor 1 14 5001) = true ∧ (s.trailer? 5001).map TrailerRec.role = some .outbound ∧ s.loadPhase = true ∧
       s.clock.ending = false ∧ (s.trailer? 5001).map (fun t => s.reached t.closingTime) = some false ∧
       s.exhausted 7 = true ∧ (s.modDepot 7 (fun r => { r with staged := 1 })).exhausted 7 = false) ∧
    ((ending (outbound (hall 10 .close))).clock.ending = true ∧
      ((outbound (hall 17500 .close)).trailer? 5001).map (fun t => (hall 17500 .close).reached t.closingTime) = some true) ∧
    (let s := (outbound (hall 14500 .close)).modDepot 15 (fun r => { r with expected := 0, moving := 0, staged := 0 })
     s.clock.phase = .close ∧ s.exhausted 7 = true ∧ s.exhausted 15 = true) := by decide

theorem witness_EndOfUnloadingEmptiesTheTrailer_loads :
    (let s := hall 84700 .transfer
     s.takes (.endUnload 1 3021) = true ∧ (s.trailer? 3021).map TrailerRec.role = some .swap ∧ s.loadPhase = true ∧
       s.clock.ending = false ∧ (s.trailer? 3021).map (fun t => s.reached t.closingTime) = some false ∧
       (s.door 3).bound = some 3021 ∧ (s.livePlan 3).map Plan.near = some 15 ∧
       (s.trailer? 3021).map TrailerRec.near = some 15 ∧ s.clock.phase = .transfer) ∧
    (let s := hall 15000 .close
     s.hears 4 = true ∧ (s.trailer? 3021).map (fun t => s.reached t.closingTime) = some false ∧
       (after (exec (.emptyTrailer 4) s)).exhausted 15 = false) := by decide +kernel

theorem witness_OffersAreAnswered_again :
    let s := hall 84700 .transfer
    (s.slotFor 7 = true ∧ 7 ∉ s.sched.freeQueue ∧ (s.truck 7).state = .onRun ∧
      (s.truck 7).run = some (aRun .load (.lane 31) (some 9)) ∧ (s.lane 31).claim = some 7 ∧ (s.lane 31).contents.head? = some 103) ∧
    (s.slotFor 8 = true ∧ (s.truck 8).run = some (aRun .load (.lane 32) (some 9)) ∧ (s.lane 32).claim ≠ some 8) ∧
    (s.slotFor 4 = true ∧ (s.truck 4).state = .onRun ∧ (s.truck 4).run = some (aRun .unload (.door 3) none)) := by decide

/-- The hall in TRANSFER with the plan at door 9 changed. -/
def planAt9 (f : Plan → Plan) : State := (hall 84700 .transfer).modPlan 9 f

/-- Door 9's plan refuses every height above 10 dm, and a second trailer is loading for depot 15 at door 14. -/
def secondDoor : State :=
  let s := planAt9 (fun p => { p with figures := { p.figures with hmax := 10 } })
  let s := s.modDoor 14 (fun r =>
    { r with state := .bound, bound := some 5001, buffer0 := { state := .live, plan := some { aPlan with fleet := 5001 } } })
  s.modTrailer 5001 (fun t => { t with role := .outbound, near := 15, state := .loading, door := some 14, tdep := 18001 })

theorem witness_AbsentLineUnderATrailerIsItsDeparture_direct :
    let s := counted { secondDoor with clock := clockAt 84700 .transfer } 9 true
    s.loadPhase = true ∧ s.directDoors 15 (some 9) = 14 :: [] ∧ (s.door 14).bound = some 5001 ∧
      (s.pallet? 108).map PalletRec.dest = some 15 ∧ (s.pallet? 108).map PalletRec.hold = some false ∧
      ((s.livePlan 14).map (fun p => match p.place ((aPallet 108 (.moving 8)).entry false) with
        | .placed _ _ => true | .refused _ => false)) = some true ∧
      (s.truck 8).task = some (aTask 108 .load (.lane 32) (.door 9 1 .a 1)) ∧
      (s.trailer? 4115).map TrailerRec.state = some .loading := by decide +kernel

theorem witness_TakesOnUnloadRuns_direct :
    let e := (aPallet 101 (.expected 3021)).entry false
    (secondDoor.slotFor 4 = true ∧ secondDoor.directDoors 15 none = [9] ++ 14 :: [] ∧
      (secondDoor.livePlan 9).map (fun p => answerOf p e) = some (.inl .height) ∧
      secondDoor.livePlan 14 = some { aPlan with fleet := 5001 } ∧ (answerOf { aPlan with fleet := 5001 } e matches .inr _)) ∧
    (let s := planAt9 (fun p => { p with figures := { p.figures with hmax := 10 } })
     s.slotFor 4 = true ∧ s.loadPhase = true ∧ s.directDoors 15 none = [9] ∧
       (s.livePlan 9).map (fun p => answerOf p e) = some (.inl .height) ∧ s.stagingLane 15 .standard = some 31) ∧
    (let s := planAt9 (fun p => { p with openRow := 14 })
     s.slotFor 4 = true ∧ s.directDoors 15 none = [9] ∧ (s.livePlan 9).map (fun p => answerOf p e) = some (.inl .noRoom) ∧
       (s.door 9).bound = some 4115 ∧ (s.trailer? 4115).map TrailerRec.state = some .loading ∧
       (s.trailer? 4115).bind TrailerRec.door = some 9 ∧ s.stagingLane 15 .standard = some 31) := by decide +kernel

theorem witness_TakesOnUnloadRuns_closing :
    let s := planAt9 (fun p => { p with openRow := 14 })
    s.LanesHeld ∧ ∀ c, (s.group c).stage ≠ .pending := by
  refine ⟨⟨by decide +kernel, by decide +kernel, by decide +kernel⟩, fun c => ?_⟩
  by_cases h : c < 4
  · exact (show ∀ c < 4, ((planAt9 (fun p => { p with openRow := 14 })).group c).stage ≠ .pending by decide +kernel) c h
  · have : (planAt9 (fun p => { p with openRow := 14 })).group c = default := by
      have size := (planAt9 (fun p => { p with openRow := 14 })).census.group.size
      simp only [State.group, Table.get, List.getD_eq_getElem?_getD]
      rw [List.getElem?_eq_none (by omega)]; rfl
    rw [this]; decide

theorem witness_TakesOnUnloadRuns_overflow :
    (let s := hall 83000 .intake
     let s := ((s.modLane 31 (fun r => { r with state := .locked })).modLane 32 (fun r => { r with state := .locked })).modLane 33
       (fun r => { r with state := .locked })
     s.slotFor 4 = true ∧ s.loadPhase = false ∧ s.stagingLane 15 .standard = none ∧ (s.depot 15).group.head? = some 31 ∧
       s.bayWithRoom = some 90 ∧ (s.trailer? 3021).map TrailerRec.taken = some 0) ∧
    (let s := hall 83000 .intake
     s.slotFor 4 = true ∧ s.pallet? 301 = none ∧ s.pallets.length < 4096 ∧ s.bayWithRoom = some 90 ∧
       ∀ x ∈ labelled, (s.resolve x.label.route).dest = 0) := by decide +kernel

theorem witness_PairingOffersTheHeadTruck_demands :
    pairing.livePlan 9 = some aPlan ∧
      pairing.loadDemands = [] ++ { kind := .load, source := .lane 31, target := some 9 } :: [] ++
        { kind := .load, source := .lane 33, target := some 9 } :: [] ∧
      (hall 83000 .intake).relocDemands = [] ∧
      ((hall 83000 .intake).modTruck 11 (fun r => { r with run := none })).relocDemands ≠ [] := by decide +kernel

theorem witness_TransmitterFollowsTheModemLines_guard :
    let s := txIn queues .yielded
    { s with floor := { s.floor with guard := some 80 } }.floor.guard = some 80 := by decide

theorem witness_CommandsAreAnsweredOnce_refusal :
    Instr.isManifest (.announce 1 anAnnounce) = false ∧ Instr.isManifest (.manifest 1 5001 0 [] 0) = true := by decide

theorem witness_SummariesAndListsAreRead_frames :
    let f : Frame := { kind := 0x7F, tag := 1, body := [] }
    (hall 83000 .intake).takes (.unknownCommand f) = true ∧ f.command = .unknownCommand f := by decide

theorem witness_FramesJoinTheReceiveQueue_receivers :
    let s := hall 83000 .intake
    (s.link.rx = [] ∧ s.link.receive = [] ∧ s.takes (.unknownCommand { kind := 0x01, tag := 1, body := [] }) = true ∧
      0xA5 ∉ ([0x00, 0xC3] : List Byte)) ∧
    ({ s with link := { s.link with rx := [0xA5] } }.link.rx ≠ [] ∧ s.clock.divisor / 20 < 500001) ∧
    ((txIn s .sending).floor.keyed = true ∧ s.floor.keyed = false ∧ s.floor.rx = [] ∧ 0xC3 ∉ ([0xA5] : List Byte)) ∧
    (floorReceive (floorBytes 31 0x05 []) = some (.accept 31) ∧ floorReceive (0xC3 :: 31 :: 5 :: 0 :: [0, 0]) = none) ∧
    (s.live = true ∧ held.live = false) := by decide +kernel

theorem witness_SentFramesGiveTheirNotices_queues :
    let s := sendingNotice (hall 83000 .intake) .none
    let f : Frame := { kind := 0x01, tag := 2, body := [] }
    let r : Reply := { kind := 0x81, tag := 1, result := .done, fields := [] }
    let t := { s with link := { s.link with slot := some r, receive := f :: [] } }
    (s.link.receive = [] ∧ t.live = true ∧ t.link.sending.isSome = true ∧ t.link.slot = some r ∧ t.link.receive = f :: []) ∧
    ((hall 83000 .intake).takes (.unknownCommand f) = true ∧ (hall 83000 .intake).link.rx = []) ∧
    ((∀ id ∈ (s.lane 90).contents, (s.pallet? id).isSome = true) ∧
      s.trailer? 5001 = some (aTrailer 5001 .inbound .announced)) := by decide

theorem witness_StepsKeepTheTablesInForm_queues :
    (queues.pallets.map PalletRec.id).Nodup ∧ State.FloorQueuesSound (txIn queues .sending) ∧ State.LinkSound (hall 83000 .intake) :=
  ⟨by decide, ⟨by decide, by decide, by decide, by decide, by decide⟩, ⟨fun _ _ => ⟨rfl, rfl⟩, fun _ _ => rfl⟩⟩

theorem witness_StepsKeepTheTablesInForm_marks :
    let s := fun c => { hall 83000 .intake with pending := [c] }
    let t := fun c => after (step (s c))
    ((∀ c, (s c).LinkSound) ∧ ∀ c, (s c).surveying = false) ∧
    (Instr.resets (.drop 5 107 (.lane 31)) = false ∧ Instr.resets (.drop 10 109 (.door 3)) = false) ∧
    ((t (.drop 5 107 (.lane 31))).surveying = false ∧ (t (.drop 5 107 (.lane 31))).lane 31 ≠ (s .tick).lane 31 ∧
      (t (.drop 5 107 (.lane 31))).truck 5 ≠ (s .tick).truck 5) ∧
    ((t (.drop 10 109 (.door 3))).surveying = false ∧ (t (.drop 10 109 (.door 3))).exceptions ≠ (s .tick).exceptions) :=
  ⟨⟨fun _ => ⟨fun _ _ => ⟨rfl, rfl⟩, fun _ _ => rfl⟩, fun _ => rfl⟩, by decide, by decide +kernel, by decide +kernel⟩

/-! ### WellFormed refuses what no carrier can spell -/

theorem test_wellFormed_refuses_numbers :
    (Instr.senseLineChange 48 true).wellFormed = false ∧ (Instr.lineEvent 48).wellFormed = false ∧
      (Instr.callTimerEnd 48).wellFormed = false ∧ (Instr.tdepReached 0).wellFormed = false ∧
      (Instr.tdepReached 65536).wellFormed = false ∧ (Instr.censusDueTime 4).wellFormed = false ∧
      (Instr.censusTimeout 4).wellFormed = false ∧ (Instr.offerTimerEnd 32).wellFormed = false ∧
      (Instr.logon 32).wellFormed = false ∧ (Instr.drop 0 1 (.door 48)).wellFormed = false ∧
      (Instr.drop 0 1 (.lane 96)).wellFormed = false ∧ (Instr.take 32 1 none).wellFormed = false := by decide

theorem test_wellFormed_refuses_wide_fields :
    (Instr.setClock 0 0x1000000).wellFormed = false ∧ (Instr.setTiming 0 0x100000000).wellFormed = false ∧
      (Instr.setNight 0 0 0 0 0x1000000).wellFormed = false ∧ (Instr.setCensus 0 65536 1 60).wellFormed = false ∧
      (Instr.setLane 0 256 0 0 0).wellFormed = false ∧ (Instr.setRoute 0 65536 0 0 1).wellFormed = false ∧
      (Instr.clearRoute 0 65536).wellFormed = false ∧ (Instr.gateArrival 0 65536).wellFormed = false ∧
      (Instr.atDoor 0 256 1).wellFormed = false ∧ (Instr.holdOnArrival 0 0x100000000).wellFormed = false ∧
      (Instr.releaseHeld 0 1 (some 256)).wellFormed = false ∧ (Instr.censusNowLane 0 256).wellFormed = false ∧
      (Instr.queryPlan 0 0 0 (some 256)).wellFormed = false ∧ (Instr.readExceptions 0 256 1).wellFormed = false ∧
      (Instr.clearException 0 1 0 0 256).wellFormed = false ∧ (Instr.take 0 0x100000000 none).wellFormed = false := by decide

theorem test_wellFormed_refuses_absent_forms :
    (Instr.queryPallet 0 0).wellFormed = false ∧ (Instr.queryLane 0 255).wellFormed = false ∧
      (Instr.queryTruck 0 255).wellFormed = false ∧ (Instr.queryTrailer 0 0).wellFormed = false ∧
      (Instr.setDepot 0 1 { enabled := true, home := some 255, group := [], priority := false }).wellFormed = false ∧
      (Instr.announce 0 { (default : AnnounceFields) with far := some 0 }).wellFormed = false ∧
      (Instr.announce 0 { (default : AnnounceFields) with window := some (0xFFFFFF, 0xFFFFFF) }).wellFormed = false ∧
      (Instr.setClass 0 0 { (default : ClassFields) with dlat := some 0xFFFF }).wellFormed = false := by decide

theorem test_wellFormed_refuses_settings :
    (Instr.setDispatch 0 { (default : DispatchSettings) with loadSlots := 256 }).wellFormed = false ∧
      (Instr.setChannel 0 { (default : ChannelSettings) with rate := 65536 }).wellFormed = false ∧
      (Instr.setDoor 0 0 { (default : DoorFields) with debounce := 65536 }).wellFormed = false ∧
      (Instr.amendTrailer 0 1 { (default : AmendFields) with tdep := some 0x1000000 }).wellFormed = false ∧
      (Instr.take 0 1 (some { (default : Label) with cls := 4 })).wellFormed = false := by decide

theorem test_wellFormed_refuses_frames :
    (Instr.manifest 0 1 0 [] 14).wellFormed = false ∧ (Instr.manifest 0 1 0 [] 1018).wellFormed = false ∧
      (Instr.censusResult 0 0 0 [] 4).wellFormed = false ∧ (Instr.stationFrameComplete []).wellFormed = false ∧
      (Instr.frameDiscarded []).wellFormed = false ∧
      (Instr.floorFrameDiscarded (floorBytes 5 0x01 [])).wellFormed = false ∧
      (Instr.unknownCommand { kind := 0x01, tag := 0, body := [] }).wellFormed = false := by decide +kernel

/-! ### The links -/

/-- The check value of the CRC the links name (generator 0x1021, initial value 0xFFFF, no inversion). -/
theorem test_crc_check_value : crc16 [0x31, 0x32, 0x33, 0x34, 0x35, 0x36, 0x37, 0x38, 0x39] = 0x29B1 := by decide +kernel

/-- A SetClock frame laid out by hand from §10.7: start byte, length 3, kind 0x02, tag, and 72000 as three bytes. -/
theorem test_frame_of_setClock :
    ((Instr.setClock 7 72000).frame?.map (fun f => f.bytes.take 8)) = some [0xA5, 0x00, 0x03, 0x02, 0x07, 0x01, 0x19, 0x40] := by
  decide +kernel

/-- One frame of each command group of §10.4, its body written out field by field, carries its command. -/
theorem test_frames_carry_commands :
    ({ kind := 0x03, tag := 1, body := [0x01, 0x35, 0x60, 0x01, 0x4A, 0x78, 0x00, 0x38, 0x40, 0x00, 0x4D, 0x58] } : Frame).command =
      .setNight 1 79200 84600 14400 19800 ∧
    ({ kind := 0x15, tag := 2, body := [14, 0x08, 0x9F] } : Frame).command = .atDoor 2 14 2207 ∧
    ({ kind := 0x20, tag := 3, body := [0, 0, 0, 0] } : Frame).command = .queryPalletSummary 3 ∧
    ({ kind := 0x39, tag := 4, body := [0, 16, 0, 0, 0, 0, 0, 2] } : Frame).command = .clearException 4 16 0 0 2 ∧
    ({ kind := 0x02, tag := 5, body := [0] } : Frame).command = .unknownCommand { kind := 0x02, tag := 5, body := [0] } := by
  decide +kernel

/-! ### The night (§1.7, §1.8) -/

theorem test_offsets_cross_midnight :
    let s := night 0 .transfer
    s.offset 84600 = 5400 ∧ s.offset 14400 = 21600 ∧ s.offset 19800 = 27000 ∧ s.offset 17400 = 24600 ∧ s.offset 0 = 7200 := by
  decide

theorem test_tick_at_midnight :
    let t := after (exec .tick (night 86399 .transfer))
    t.clock.second = 0 ∧ t.clock.phase = .transfer := by decide +kernel

theorem test_phase_time_reached :
    let t := after (exec .tick (hall 84599 .intake))
    let u := after (exec (.phaseTimeReached .ttransfer) t)
    t.clock.phase = .intake ∧ u.clock.phase = .transfer ∧
      u.link.sending.map (fun o => o.frame.kind) = some 0xC0 := by decide +kernel

/-- §1.7's last case: unloading that ends at 17500, the closing time 17400 passed, closes the trailer at once. -/
theorem test_ready_after_its_closing_time :
    let t := after (exec (.endUnload 1 3021) (hall 17500 .close))
    (t.trailer? 3021).map TrailerRec.state = some .sealed := by decide +kernel

/-- §1.8: the Drop that empties the task list while the night is ending ends it, and rolls over. -/
theorem test_last_drop_ends_the_night :
    let s := ending ((hall 19910 .close).modTruck 8 (fun _ => TruckRec.reset))
    let t := after (exec (.drop 5 107 (.lane 31)) s)
    t.clock.phase = .idle ∧ t.clock.ending = false ∧ t.clock.rolledOver = true ∧
      (t.pallet? 107).map PalletRec.roll = some 1 ∧ t.pallet? 109 = none := by decide +kernel

/-! ### Routes, depots and pallets (§2.4, §2.9, §3.12) -/

theorem test_resolution :
    routed.resolve 0x3A41CE = .to 15 ∧ routed.resolve 0x3A9F05 = .to 12 ∧ routed.resolve 0x51234F = .disabled ∧
      routed.resolve 0x777773 = .to 44 ∧ routed.resolve 0x3A41C5 = .check := by decide +kernel

/-- §2.9, steps 2 and 3: a Take on an UNLOAD run raises MOVING and lowers EXPECTED. -/
theorem test_take_moves_the_counters :
    let t := after (exec (.take 4 101 none) (hall 83000 .intake))
    (t.depot 15).expected = 1 ∧ (t.depot 15).moving = 3 ∧ (t.pallet? 101).map PalletRec.place = some (.moving 4) ∧
      (t.lane 31).reserved = 2 := by decide +kernel

/-- §3.12 with a table of 4093 other records: FULL, with 3 accepted, 1 duplicate, 1 refused and position 5. -/
theorem test_manifest_into_a_nearly_full_table :
    let l : Label := { route := 0x3A41CE, weight := 640, height := 14, topLoad := 800, hazard := 0, cls := 1, hold := false }
    let es : List ManifestEntry := [{ id := 62000201, label := l }, { id := 10, label := l },
      { id := 62000203, label := { l with weight := 1800 } }, { id := 62000204, label := { l with height := 30, cls := 2 } },
      { id := 62000205, label := l }]
    let pallets := (List.range 4093).map (fun i => { aPallet (i + 1) (.staged 31) with dest := 0 })
    let s := { hall 83000 .intake with routes := routed.routes, pallets := pallets }
    let t := after (exec (.manifest 1 5001 5 es 0) s)
    t.link.sending.map (fun o => o.frame.body) = some [0x85, 0, 3, 1, 1, 5] ∧ t.pallets.length = 4096 ∧
      (t.pallet? 62000203).map PalletRec.weight = some 1500 ∧ (t.pallet? 62000204).map PalletRec.height = some 26 ∧
      t.exceptions.entries.map (fun e => (e.kind, e.subject, e.detail)) =
        [(.saturatedLabel, .pallet 62000203, 1), (.saturatedLabel, .pallet 62000204, 2), (.tableFull, .trailer 5001, 1)] := by
  decide +kernel

/-! ### Doors and trailers (§4.9, §4.10) -/

/-- §4.9 at 81103: the line under an EMPTIED trailer is absent; it departs, and the head of the queue is called until 81403. -/
theorem test_departure_then_call :
    let s := (hall 81103 .intake).modTrailer 3021 (fun t => { t with state := .emptied, role := .inbound, buffer := none })
    let s := counted s 3 true
    let s := s.modDoor 3 (fun r => { r with queue := [3301], buffer0 := Buffer.reset })
    let t := after (exec (.lineEvent 3) s)
    (t.door 3).state = .called ∧ (t.door 3).called = some 3301 ∧ (t.door 3).callEnd = some 81403 ∧ (t.door 3).queue = [] ∧
      (t.trailer? 3021).map TrailerRec.state = some .departed ∧ t.exceptions.entries = [] := by decide +kernel

/-- §4.10 at 80300: the call lapses; the trailer goes to the tail, and the next one is called until 80600. -/
theorem test_lapse_calls_the_next :
    let s := ((hall 80300 .intake).modDoor 20 (fun r => { r with queue := [3301] })).modTrailer 3301 (fun t =>
      { t with door := some 20 })
    let t := after (exec (.callTimerEnd 20) (dueAt s (.callTimer 20)))
    (t.door 20).called = some 3301 ∧ (t.door 20).callEnd = some 80600 ∧ (t.door 20).queue = [3305] ∧
      (t.trailer? 3305).map (fun r => (r.state, r.lapses)) = some (.yard, 1) := by decide +kernel

/-- §4.10 at 80450: another trailer than the called one is at the door; the called one goes back to the head without a lapse. -/
theorem test_displacement :
    let s := (hall 80450 .intake).modDoor 20 (fun r =>
      { r with state := .arrived, present := true, callEnd := none, arrival := some 80413, queue := [3301] })
    let s := s.modTrailer 3301 (fun t => { t with door := some 20 })
    let t := after (exec (.atDoor 1 20 3301) s)
    (t.door 20).bound = some 3301 ∧ (t.door 20).queue = [3305] ∧
      (t.trailer? 3305).map (fun r => (r.state, r.lapses)) = some (.yard, 0) ∧
      (t.trailer? 3301).map (fun r => (r.state, r.dock)) = some (.unloading, some 80413) := by decide +kernel

/-! ### Lanes and the census (§5.8, §5.9) -/

theorem test_staging_selection :
    staged.stagingLane 21 .premium = some 28 ∧ (staged.reserve 28).stagingLane 21 .premium = some 30 ∧
      staged.stagingLane 21 .standard = some 30 ∧
      (staged.modLane 30 (fun r => { r with state := .pending })).stagingLane 21 .standard = some 29 ∧
      staged.bayWithRoom = some 91 := by decide +kernel

/-- §5.9's schedule: the first due times with P 3600 and G 4. -/
theorem test_census_schedule :
    groupNumbers.map (fun g => ((night 79200 .idle).armCensus.group g).nextDue) =
      [some 80100, some 81000, some 81900, some 82800] := by decide +kernel

theorem test_census_reconcile :
    let t := after (exec (.censusResult 1 30 8 [1, 3, 5, 30, 11, 99, 4, 21] 0) reconcile)
    t.link.sending.map (fun o => o.frame.body) = some [0x00, 0, 4, 1, 2, 2] ∧ (t.lane 30).contents = [1, 3, 4, 5, 30, 11] ∧
      (t.lane 34).contents = [10] ∧ (t.pallet? 2).map PalletRec.place = some (.missing (.lane 30)) ∧
      (t.depot 21).staged = 8 ∧ t.exceptions.entries.map (fun e => (e.kind, e.subject, e.detail)) =
        [(.censusMismatch, .lane 30, 5)] := by decide +kernel

theorem test_census_timeout :
    let s := ((reconcile.modLane 30 (fun r => { r with state := .open_ })).modLane 34 (fun r => { r with state := .open_ }))
    let t := after (exec (.censusTimeout 2) (dueAt s (.censusTimeout 2)))
    (t.lane 90).state = .open_ ∧ (t.lane 90).unverified = true ∧ (t.group 2).stage = .none ∧ (t.group 2).lanes = [] ∧
      t.exceptions.entries.map (fun e => (e.kind, e.subject, e.detail)) = [(.censusTimeout, .lane 90, 2)] := by decide +kernel

/-! ### Load planning (§6.10, §6.11) -/

/-- §6.10's plan of trailer 5108. -/
def plan5108 : Plan :=
  let e := fun p weight topLoad =>
    ({ id := p, weight := weight, height := 12, topLoad := topLoad, hazard := none, dest := 17, confirmed := true } : Entry)
  let row := fun a b => ({ a := a, b := b } : PlanRow)
  let figures := { aClass with dlat := some 500 }
  { Plan.start { aTrailer 5108 .swap .loading with near := 17 } figures 0 with
    loading := true, openRow := 4, weight := 5300, moment := 18600, weightA := 3000, weightB := 2300
    rows := [row [e 1 800 0] [e 2 800 0], row [e 3 700 0] [e 4 650 0], row [e 5 900 0] [e 6 850 0], row [e 7 600 500] []] ++
      List.replicate 9 (row [] []) }

/-- §6.10's pallet, of the weight given. -/
def pallet417 (weight : Nat) : Entry :=
  { id := 81000417, weight := weight, height := 14, topLoad := 800, hazard := none, dest := 17, confirmed := false }

theorem test_placement_at_the_lateral_limit :
    answerOf plan5108 (pallet417 1200) = .inr (4, .b, 1) ∧ answerOf plan5108 (pallet417 1250) = .inr (5, .a, 1) ∧
      (let p := placed plan5108 (pallet417 1200)
       p.openRow = 4 ∧ p.moment = 27000 ∧ p.axleLoad = 1227 ∧ p.kingpinLoad = 5273) ∧
      (let p := placed plan5108 (pallet417 1250)
       p.openRow = 5 ∧ p.lost = 1 ∧ p.axleLoad = 1356 ∧ p.kingpinLoad = 5194) := by decide +kernel

theorem test_refusal_release_and_switch :
    plan6031.weight = 3800 ∧ plan6031.moment = 8600 ∧ plan6031.reserved = 2 ∧ plan6031.openRow = 3 ∧
      (let p := (plan6031.confirm 6).release 5
       p.weight = 3200 ∧ p.moment = 6800 ∧ p.lost = 1 ∧ p.reserved = 0 ∧
         (let q := p.switched
          q.openRow = 4 ∧ q.lost = 2 ∧ answerOf q (anEntry 8 500 33 false) = .inl .drop ∧
            answerOf q (anEntry 9 1000 21 false) = .inr (5, .a, 1) ∧ (placed q (anEntry 9 1000 21 false)).lost = 4)) := by
  decide +kernel

/-! ### Move scheduling (§7.15, §7.16) -/

/-- §7.15's three pairings: two hits, then alternation on a load slot. -/
theorem test_pairings :
    let t := pairing.pair
    t.sched.freeQueue = [] ∧ t.sched.counter = 4 ∧
      [5, 11, 2].map (fun n => (t.truck n).run.map (fun r => (r.kind, r.source))) =
        [some (.load, .lane 33), some (.unload, .door 3), some (.load, .lane 31)] ∧
      (t.lane 33).holder = some 5 := by decide +kernel

/-- §7.16, the expiry taken first: the late Drop is recovered into the lane. -/
theorem test_late_drop_is_recovered :
    let k := { aTask 107 .unload (.door 3) (.lane 31) with open_ := true, deadline := some 1781 }
    let s := dueAt ((hall 1781 .transfer).modTruck 5 (fun r => { r with task := some k })) (.deadline 5)
    let s := { s with sched := { s.sched with freeQueue := [] }, trucks := s.trucks.set 1 TruckRec.reset }
    let t := after (exec (.taskDeadline 5) s)
    let u := after (exec (.drop 5 107 (.lane 31)) { t with floor := { t.floor with tx := .quiet, cd := true } })
    (t.truck 5).state = .absent ∧ (t.pallet? 107).map PalletRec.place = some (.missing (.truck 5)) ∧
      (u.pallet? 107).map PalletRec.place = some (.staged 31) ∧ (u.lane 31).contents = [103, 107] ∧
      (u.lane 31).reserved = 0 ∧ u.exceptions.entries.map (fun e => (e.kind, e.subject, e.detail)) =
        [(.taskExpired, .truck 5, 107), (.lateRecovery, .pallet 107, 65823)] := by decide +kernel

/-- §7.16, 1541: the DropInstruct is sent; 1541 + 180 + 60. -/
theorem test_deadline_of_a_first_task :
    let s := onAir { queues with clock := clockAt 1541 .transfer }
    (((after (exec .floorFrameSent s)).truck 5).task.map (fun k => (k.open_, k.deadline))) = some (true, some 1781) := by
  decide +kernel

/-! ### The floor channel (§8.7) -/

theorem test_yield_to_carrier :
    let t := after (exec .cdAsserted (txIn queues .keying))
    let u := after (exec (.logon 12) t)
    t.floor.tx = .yielded ∧ u.floor.replies.map Waiting.truck = [5, 2, 12] ∧
      (after (exec .cdClears u)).floor.timer = some 80 := by decide +kernel

theorem test_clear_timeout :
    let t := after (exec .clearTimerExpiry (txIn queues .keying))
    t.floor.tx = .holdoff ∧ t.floor.timer = some 1000 ∧ t.floor.replies = queues.floor.replies ∧
      t.exceptions.entries.map (fun e => (e.kind, e.detail)) = [(.channelFault, 1)] := by decide +kernel

/-! ### Exceptions (§9.8) -/

theorem test_overflow_names_the_lost_exception :
    let s := (listing 3020 (ordinary 63)).raise .taskExpired (.truck 14) 62000201
    let t := s.raise .sealAxle (.trailer 6031) 2
    s.exceptions.entries[63]?.map ExcEntry.detail = some 0x0C03000E ∧ s.exceptions.changes = 0 ∧
      t.exceptions.entries[63]?.map (fun e => (e.count, e.detail)) = some (2, 0x1104178F) ∧ t.exceptions.entries.length = 64 := by
  decide +kernel

/-- The guarded clear of 3033: the reply carries the count 3 and the last time 3031. -/
theorem test_guarded_clear :
    let e := { ExcEntry.new .channelFault .none 3000 true 3 with count := 3, last := 3031 }
    let t := after (exec (.clearException 1 16 0 0 2) (listing 3033 [e]))
    t.link.sending.map (fun o => o.frame.body) = some [0x86, 0, 3, 0x00, 0x0B, 0xD7] ∧ t.exceptions.entries = [e] := by
  decide +kernel

/-! ### Start-up (§11.5) and Identify -/

theorem test_start_without_a_bay :
    ((after (exec (.start 1) (setUp [] (clockAt 72000 .unconfigured)))).link.sending.map (fun o => o.frame.body)) =
      some [0x86, 0, 5] := by decide +kernel

theorem test_survey :
    let s := after (exec (.start 1) (setUp [90, 91] (clockAt 72000 .unconfigured)))
    let s := { s with link := { s.link with sending := none } }
    let t := { s with startUp := { s.startUp with survey := s.startUp.survey.map (fun c => { c with elapsed := c.total }) } }
    s.startUp.survey.map PeriodCount.total = some 30000000 ∧
      (after (exec (.atDoor 1 14 5001) s)).link.sending.map (fun o => o.frame.body.head?) = some (some 0x87) ∧
      (let u := after (exec .surveyEnd t)
       u.clock.phase = .idle ∧ (u.door 14).state = .arrived ∧ (u.door 5).state = .free) := by decide +kernel

theorem test_identify_after_reset :
    let s := after (exec .stationFrameSent State.reset)
    (after (exec (.identify 9) s)).link.sending.map (fun o => (o.frame.kind, o.frame.tag, o.frame.body)) =
      some (0x81, 9, [0x00, 0x00, 0x72, 0x40, 0x01, 1, 0, 0]) := by decide +kernel

end Sys2Proof.Tests
end

/-!
PROOFS. The depot clock, its settings and the night times (§1.1 to §1.3): what a command answers when the interpreter takes
it, what a period, a tick, a reset and a Restart leave in the clock, and the rules of SetTiming, SetClock and SetNight case by case.
-/

namespace Sys2Proof.Machine

/-! ### A command that the interpreter takes (R173) -/

/-- A taken command leaves the state of its rule's answer with the reply made, where that state's slot and queue are still empty. -/
theorem State.interpret_answered {s t : State} {c : Instr} {kind : Nat} {tag : Byte} {rule : State → Answer} {r : Result}
    {fields : List Byte} (taken : s.takes c = true) (still : t.takes c = true) (answer : rule s = ⟨t, r, fields⟩) :
    s.interpret c kind tag rule = t.replied (BitVec.ofNat 8 kind) tag r fields := by
  have atT := t.interpret_unchanged c kind tag (fun _ => ⟨t, r, fields⟩) r fields still rfl
  rw [t.interpret_of_takes c kind tag _ still] at atT
  rw [s.interpret_of_takes c kind tag rule taken, answer, atT]

/-- A marking leaves the conditions of the interpreter as they are. -/
@[simp] theorem State.takes_mark (s : State) (x : Subject) (c : Instr) : (s.mark x).takes c = s.takes c := by
  rw [State.takes, State.live, State.mark_startUp, State.mark_link]
  rfl

/-- The night clock's state is none of the conditions of the interpreter. -/
@[simp] theorem State.takes_withClock (s : State) (k : NightClock) (c : Instr) :
    State.takes { s with clock := k } c = s.takes c := rfl

/-- A taken command changes the clock as its rule does. -/
theorem State.interpret_clock {s : State} {c : Instr} (kind : Nat) (tag : Byte) (rule : State → Answer)
    (taken : s.takes c = true) : (s.interpret c kind tag rule).clock = (rule s).state.clock := by
  rw [s.interpret_of_takes c kind tag rule taken, State.chooseFrame_clock]
  rfl

/-! ### The survey check (R181) -/

/-- During the survey the check refuses NOT_NOW, whatever the rule would answer. -/
theorem State.unlessSurvey_of_surveying {s : State} (a : Answer) (h : s.surveying = true) :
    s.unlessSurvey a = s.refuse .notNow := if_pos h

theorem State.unlessSurvey_of_not {s : State} (a : Answer) (h : s.surveying = false) : s.unlessSurvey a = a := by
  simp [State.unlessSurvey, h]

/-! ### Marks leave the clock alone -/

theorem State.foldl_mark_clock (l : List Subject) (s : State) : (l.foldl State.mark s).clock = s.clock :=
  (LaneOnly.foldl (fun s x => s.mark_laneOnly x) l s).clock

/-! ### Periods and ticks (R1, R2) -/

/-- The clock after a tick: the next second of the day, counted from 0, governed by the divisor now in force. -/
theorem State.tick_clock (s : State) :
    s.tick.clock = { s.clock with
      second := (s.clock.second + 1) % 86400, sub := 0, secondDivisor := s.clock.divisor } := rfl

/-- A tick changes nothing but the clock, the due events, and the counts of periods. -/
theorem State.tick_frame (s : State) :
    { s.tick with clock := s.clock, due := s.due, doors := s.doors, startUp := s.startUp } = s := rfl

theorem State.period_of_last {s : State} (h : s.clock.secondDivisor ≤ s.clock.sub + 1) : s.period = s.tick := if_pos h

theorem State.period_clock_of_lt {s : State} (h : s.clock.sub + 1 < s.clock.secondDivisor) :
    s.period.clock = { s.clock with sub := s.clock.sub + 1 } := by
  rw [State.period, if_neg (by omega)]
  rfl

/-- The second after `n`, from 86399 to 0. -/
theorem nextSecond_eq {n : Nat} (h : n < 86400) : (n + 1) % 86400 = if n = 86399 then 0 else n + 1 := by
  split <;> omega

/-- The clock after a tick, of a second count in its range. -/
theorem State.tick_clock_of_inDay {s : State} (h : s.clock.second < 86400) :
    s.tick.clock = { s.clock with
      second := if s.clock.second = 86399 then 0 else s.clock.second + 1, sub := 0,
      secondDivisor := s.clock.divisor } := by
  rw [s.tick_clock, nextSecond_eq h]

theorem exec_tick_of_live {s : State} (h : s.live = true) : exec .tick s = .next s.tick := by
  have free : s.startUp.resetHeld = false := by simpa [State.live] using h
  change execTick s = _
  simp [execTick, free]

/-- The second count moves in the last period of a second only, whatever divisor has been set in the meantime. -/
theorem State.last_of_period_second_ne {s : State} (h : s.period.clock.second ≠ s.clock.second) :
    s.clock.secondDivisor ≤ s.clock.sub + 1 := by
  refine Nat.le_of_not_lt fun notLast => h ?_
  rw [State.period_clock_of_lt notLast]

/-! ### Reset and Restart (R1, R6) -/

/-- Power-on and the release of the reset pin both leave the clock at its reset values. -/
theorem exec_reset_clock (rate1 rate0 : Bool) (s : State) :
    ∃ t u, exec (.powerOn rate1 rate0) s = .next t ∧ exec (.resetPinRelease rate1 rate0) s = .next u ∧
      u.clock = t.clock ∧ t.clock = NightClock.reset := ⟨_, _, rfl, rfl, rfl, rfl⟩

/-- The rule of Restart clears the night's progress and leaves the rest of the clock (R7). -/
theorem State.restart_clock {s : State} (started : s.started = true) (quiet : s.surveying = false) :
    s.restart.state.clock = { s.clock with phase := .idle, ending := false, rolledOver := false } := by
  rw [State.restart, if_pos started, State.unlessSurvey_of_not _ quiet]
  exact State.foldl_mark_clock s.restartMarks s.restarted

/-- A taken Restart leaves the clock but for the phase and its two flags. -/
theorem exec_restart_clock {tag : Byte} {s : State} (taken : s.takes (.restart tag) = true) (started : s.started = true)
    (quiet : s.surveying = false) :
    ∃ t, exec (.restart tag) s = .next t ∧
      t.clock = { s.clock with phase := .idle, ending := false, rolledOver := false } :=
  ⟨_, rfl, (State.interpret_clock 0x8F tag State.restart taken).trans (State.restart_clock started quiet)⟩

/-- Settles O4: a period is a tick or one more of the second's periods, and reset and Restart are read off the clock they leave. -/
theorem clockCountsPeriodsAndSeconds : Obligations.ClockCountsPeriodsAndSeconds := by
  refine ⟨fun s => State.period_clock_of_lt, fun s inDay last => ?_, fun s live inDay => ?_, fun rate1 rate0 s => ?_,
    fun tag s taken started quiet => ?_⟩
  · rw [State.period_of_last last, State.tick_clock_of_inDay inDay]
  · exact ⟨s.tick, exec_tick_of_live live, State.tick_clock_of_inDay inDay, s.tick_frame⟩
  · obtain ⟨t, u, power, pin, same, values⟩ := exec_reset_clock rate1 rate0 s
    exact ⟨t, u, power, pin, same, by simp [values, NightClock.reset, Config.defaultDivisor]⟩
  · obtain ⟨t, run, clock⟩ := exec_restart_clock taken started quiet
    exact ⟨t, run, by simp [clock]⟩

/-! ### SetTiming (R2) -/

theorem clampDivisor_eq (d : Nat) :
    clampDivisor d = if d < 1000000 then 1000000 else if 50000000 < d then 50000000 else d := rfl

/-- The clamp moves exactly the divisors out of range. -/
theorem clampDivisor_eq_self_iff (d : Nat) : clampDivisor d = d ↔ ¬ (d < 1000000 ∨ 50000000 < d) := by
  rw [clampDivisor_eq]
  split
  · omega
  · split <;> omega

/-- The rule of SetTiming outside the survey. -/
theorem State.setTiming_of_not_surveying {s : State} (d : Nat) (quiet : s.surveying = false) :
    s.setTiming d = ⟨{ s with clock := { s.clock with divisor := clampDivisor d } },
      if d < 1000000 ∨ 50000000 < d then .doneClamped else .done, []⟩ := by
  rw [State.setTiming, State.unlessSurvey_of_not _ quiet]
  simp only [clampDivisor_eq_self_iff, ite_not]

/-! ### SetClock and SetNight: accepted between nights only (R3, R6) -/

theorem State.setClock_of_badValue {s : State} {time : Nat} (bad : 86399 < time) :
    s.setClock time = ⟨s, .badValue, []⟩ := if_pos bad

theorem State.setClock_of_notNow {s : State} {time : Nat} (inDay : time ≤ 86399)
    (busy : s.surveying = true ∨ s.inNight = true) : s.setClock time = ⟨s, .notNow, []⟩ := by
  rw [State.setClock, if_neg (by simp only [Config.daySeconds]; omega), if_pos busy]
  rfl

theorem State.setClock_of_accepted {s : State} {time : Nat} (inDay : time ≤ 86399) (quiet : s.surveying = false)
    (between : s.inNight = false) :
    s.setClock time = ⟨State.mark { s with clock := { s.clock with
      second := time, sub := 0, secondDivisor := s.clock.divisor, valid := true } } .phase, .done, []⟩ := by
  rw [State.setClock, if_neg (by simp only [Config.daySeconds]; omega), if_neg (by simp [quiet, between])]
  rfl

/-- The offset of R5 for a base that is a time of day. -/
theorem offsetFrom_of_inDay {base : Nat} (h : base ≤ 86399) (t : Nat) :
    offsetFrom base t = (t + 86400 - base) % 86400 := by
  simp only [offsetFrom, Config.daySeconds]
  omega

/-- Four times make a night when each is a time of day and their offsets from the first rise strictly (R6). -/
theorem nightTimes_iff (o tr c e : Nat) :
    nightTimes o tr c e = true ↔
      o ≤ 86399 ∧ tr ≤ 86399 ∧ c ≤ 86399 ∧ e ≤ 86399 ∧ 0 < (tr + 86400 - o) % 86400 ∧
        (tr + 86400 - o) % 86400 < (c + 86400 - o) % 86400 ∧ (c + 86400 - o) % 86400 < (e + 86400 - o) % 86400 := by
  by_cases inDay : o ≤ 86399
  · simp only [nightTimes, decide_eq_true_eq, offsetFrom_of_inDay inDay, Config.daySeconds]
    omega
  · have outside : ¬ o < 86400 := by omega
    simp [nightTimes, Config.daySeconds, inDay, outside]

theorem State.setNight_of_badValue {s : State} {o tr c e : Nat} (bad : ¬ nightTimes o tr c e = true) :
    s.setNight o tr c e = ⟨s, .badValue, []⟩ := if_pos (by simpa using bad)

theorem State.setNight_of_notNow {s : State} {o tr c e : Nat} (good : nightTimes o tr c e = true)
    (busy : s.surveying = true ∨ s.inNight = true) : s.setNight o tr c e = ⟨s, .notNow, []⟩ := by
  rw [State.setNight, if_neg (by simp [good]), if_pos busy]
  rfl

theorem State.setNight_of_accepted {s : State} {o tr c e : Nat} (good : nightTimes o tr c e = true)
    (quiet : s.surveying = false) (between : s.inNight = false) :
    s.setNight o tr c e = ⟨State.mark { s with clock := { s.clock with
      topen := o, ttransfer := tr, tclose := c, tend := e, nightValid := true } } .phase, .done, []⟩ := by
  rw [State.setNight, if_neg (by simp [good]), if_neg (by simp [quiet, between])]
  rfl

/-! ### Start's first two checks (R183) -/

/-- The answer of a Start whose checks fail, outside the survey and before any Start. -/
theorem State.start_of_failure {s : State} {extra : List Byte} (fresh : s.started = false) (quiet : s.surveying = false)
    (failure : s.startFailure = some extra) : s.start = ⟨s, .conflict, extra⟩ := by
  rw [State.start, State.unlessSurvey_of_not _ quiet, if_neg (by simp [fresh]), failure]
  rfl

theorem State.startFailure_of_clock_invalid {s : State} (h : s.clock.valid = false) : s.startFailure = some [1] := if_pos h

theorem State.startFailure_of_night_invalid {s : State} (h : s.clock.valid = true) (h' : s.clock.nightValid = false) :
    s.startFailure = some [2] := by
  rw [State.startFailure, if_neg (by simp [h]), if_pos h']
  rfl

/-- A taken Start whose checks fail is refused CONFLICT, with the failed check's fields. -/
theorem exec_start_of_failure {tag : Byte} {s : State} {extra : List Byte} (taken : s.takes (.start tag) = true)
    (fresh : s.started = false) (quiet : s.surveying = false) (failure : s.startFailure = some extra) :
    exec (.start tag) s = .next (s.replied 0x8E tag .conflict extra) :=
  congrArg Host.Outcome.next (State.interpret_answered taken taken (State.start_of_failure fresh quiet failure))

/-! ### The commands' rows -/

theorem exec_setTiming_of_answer {tag : Byte} {d : Nat} {s t : State} {r : Result} (taken : s.takes (.setTiming tag d) = true)
    (still : t.takes (.setTiming tag d) = true) (answer : s.setTiming d = ⟨t, r, []⟩) :
    exec (.setTiming tag d) s = .next (t.replied 0x84 tag r []) :=
  congrArg Host.Outcome.next (State.interpret_answered taken still answer)

theorem exec_setClock_of_answer {tag : Byte} {time : Nat} {s t : State} {r : Result}
    (taken : s.takes (.setClock tag time) = true) (still : t.takes (.setClock tag time) = true)
    (answer : s.setClock time = ⟨t, r, []⟩) : exec (.setClock tag time) s = .next (t.replied 0x82 tag r []) :=
  congrArg Host.Outcome.next (State.interpret_answered taken still answer)

theorem exec_setNight_of_answer {tag : Byte} {o tr c e : Nat} {s t : State} {r : Result}
    (taken : s.takes (.setNight tag o tr c e) = true) (still : t.takes (.setNight tag o tr c e) = true)
    (answer : s.setNight o tr c e = ⟨t, r, []⟩) : exec (.setNight tag o tr c e) s = .next (t.replied 0x83 tag r []) :=
  congrArg Host.Outcome.next (State.interpret_answered taken still answer)

/-- Settles O6, one answer of the rules of SetTiming, SetClock and Start at a time; only a tick moves the second count. -/
theorem timingAndClockSettings : Obligations.TimingAndClockSettings := by
  refine ⟨⟨fun tag d s taken => ⟨fun survey => ?_, fun quiet => ?_⟩,
      fun s => ⟨State.last_of_period_second_ne, fun last => ?_⟩⟩,
    fun tag time s taken => ⟨fun bad _ _ => ?_, fun inDay busy => ?_, fun inDay quiet between => ?_⟩,
    fun tag s taken fresh quiet invalid => ?_⟩
  · exact exec_setTiming_of_answer taken taken (State.unlessSurvey_of_surveying _ survey)
  · exact exec_setTiming_of_answer taken taken (State.setTiming_of_not_surveying d quiet)
  · rw [State.period_of_last last, s.tick_clock]
    exact ⟨rfl, rfl⟩
  · exact exec_setClock_of_answer taken taken (State.setClock_of_badValue bad)
  · exact exec_setClock_of_answer taken taken (State.setClock_of_notNow inDay busy)
  · exact ⟨_, exec_setClock_of_answer taken (by simpa using taken) (State.setClock_of_accepted inDay quiet between), rfl,
      by simp⟩
  · exact exec_start_of_failure taken fresh quiet (State.startFailure_of_clock_invalid invalid)

/-- Settles O7: the rule's test of the four times is that of R6, and each of its answers is the row's reply. -/
theorem setNightStoresRisingTimes : Obligations.SetNightStoresRisingTimes := by
  refine ⟨fun tag o tr c e s taken => ?_, fun tag s taken fresh quiet clock night => ?_, fun rate1 rate0 s => ?_,
    fun tag s taken started quiet => ?_⟩
  · refine ⟨fun bad _ _ => ?_, fun good busy => ?_, fun good quiet between => ?_⟩
    · exact exec_setNight_of_answer taken taken (State.setNight_of_badValue (mt (nightTimes_iff o tr c e).mp bad))
    · exact exec_setNight_of_answer taken taken (State.setNight_of_notNow ((nightTimes_iff o tr c e).mpr good) busy)
    · exact exec_setNight_of_answer taken (by simpa using taken)
        (State.setNight_of_accepted ((nightTimes_iff o tr c e).mpr good) quiet between)
  · exact exec_start_of_failure taken fresh quiet (State.startFailure_of_night_invalid clock night)
  · obtain ⟨t, u, power, pin, same, values⟩ := exec_reset_clock rate1 rate0 s
    exact ⟨t, u, power, pin, same, by simp [values, NightClock.reset]⟩
  · obtain ⟨t, run, clock⟩ := exec_restart_clock taken started quiet
    exact ⟨t, run, by simp [clock]⟩

end Sys2Proof.Machine

/-!
PROOFS. Routing (§2.1 to §2.4): the winner among the entries that match a route code, what a resolution answers, and the rules
of SetRoute and ClearRoute case by case.
-/

namespace Sys2Proof

theorem Table.mem_rows_iff [Inhabited α] (t : Table n α) (a : α) : a ∈ t.rows ↔ ∃ j < n, t.get j = a := by
  constructor
  · intro ha
    obtain ⟨j, hj, rfl⟩ := List.getElem_of_mem ha
    exact ⟨j, t.size ▸ hj, by simp [Table.get, hj]⟩
  · rintro ⟨j, hj, rfl⟩
    have inRows : j < t.rows.length := by rw [t.size]; exact hj
    simp [Table.get, inRows]

/-- A table's records around record `i`: those before it have lower numbers. -/
theorem Table.rows_split [Inhabited α] (t : Table n α) {i : Nat} (h : i < n) :
    ∃ before after, t.rows = before ++ t.get i :: after ∧ (∀ a ∈ before, ∃ j < i, t.get j = a) ∧
      ∀ a ∈ after, ∃ j < n, t.get j = a := by
  have inRows : i < t.rows.length := by rw [t.size]; exact h
  have atI : t.get i = t.rows[i] := by simp [Table.get, inRows]
  refine ⟨t.rows.take i, t.rows.drop (i + 1), ?_, fun a ha => ?_, fun a ha => ?_⟩
  · rw [atI, ← List.drop_eq_getElem_cons inRows, List.take_append_drop]
  · obtain ⟨j, hj, rfl⟩ := List.mem_take_iff_getElem.mp ha
    exact ⟨j, by omega, by simp [Table.get, show j < t.rows.length by omega]⟩
  · exact (t.mem_rows_iff a).mp (List.mem_of_mem_drop ha)

namespace Machine

/-! ### The winner among matching entries (R17) -/

theorem RouteEntry.matches_iff (e : RouteEntry) (v : BitVec 20) :
    e.matches v = true ↔ e.valid = true ∧ v &&& e.mask = e.pattern := by simp [RouteEntry.matches]

/-- An entry that matches and is heavier than the best so far takes its place. -/
theorem bestRoute_cons_of_heavier {v : BitVec 20} {best : Option RouteEntry} {e : RouteEntry} (hit : e.matches v = true)
    (heavier : ∀ b ∈ best, maskWeight b.mask < maskWeight e.mask) (l : List RouteEntry) :
    bestRoute v best (e :: l) = bestRoute v (some e) l := by
  cases best with
  | none => simp [bestRoute, hit]
  | some b => simp [bestRoute, hit, heavier b rfl]

/-- An entry that does not match, or is no heavier than the best so far, is passed over. -/
theorem bestRoute_cons_of_passed {v : BitVec 20} {best : Option RouteEntry} {e : RouteEntry}
    (passed : e.matches v = true → ∃ b ∈ best, maskWeight e.mask ≤ maskWeight b.mask) (l : List RouteEntry) :
    bestRoute v best (e :: l) = bestRoute v best l := by
  by_cases hit : e.matches v = true
  · obtain ⟨b, rfl, light⟩ := passed hit
    simp [bestRoute, hit, Nat.not_lt.mpr light]
  · simp [bestRoute, hit]

/-- The best so far stands when every entry is passed over: of equal weights, the lower number's. -/
theorem bestRoute_of_all_passed {v : BitVec 20} {best : Option RouteEntry} {l : List RouteEntry}
    (passed : ∀ e ∈ l, e.matches v = true → ∃ b ∈ best, maskWeight e.mask ≤ maskWeight b.mask) :
    bestRoute v best l = best := by
  induction l with
  | nil => rfl
  | cons e l ih =>
    rw [bestRoute_cons_of_passed (passed e List.mem_cons_self), ih fun x hx => passed x (List.mem_cons_of_mem e hx)]

/-- A matching entry wins when it is heavier than every match before it and no lighter than any after it. -/
theorem bestRoute_append_cons {v : BitVec 20} {e : RouteEntry} {before after : List RouteEntry} {best : Option RouteEntry}
    (hit : e.matches v = true) (first : ∀ b ∈ best, maskWeight b.mask < maskWeight e.mask)
    (heavier : ∀ x ∈ before, x.matches v = true → maskWeight x.mask < maskWeight e.mask)
    (light : ∀ x ∈ after, x.matches v = true → maskWeight x.mask ≤ maskWeight e.mask) :
    bestRoute v best (before ++ e :: after) = some e := by
  induction before generalizing best with
  | nil =>
    rw [List.nil_append, bestRoute_cons_of_heavier hit first]
    exact bestRoute_of_all_passed fun x hx hit => ⟨e, rfl, light x hx hit⟩
  | cons x before ih =>
    have rest := fun y hy => heavier y (List.mem_cons_of_mem x hy)
    by_cases takes : x.matches v = true ∧ ∀ b ∈ best, maskWeight b.mask < maskWeight x.mask
    · obtain ⟨hitX, heavierX⟩ := takes
      rw [List.cons_append, bestRoute_cons_of_heavier hitX heavierX]
      exact ih (by simpa using heavier x List.mem_cons_self hitX) rest
    · rw [List.cons_append, bestRoute_cons_of_passed (by simpa using takes)]
      exact ih first rest

/-- A table none of whose entries matches has no winner. -/
theorem bestRoute_rows_eq_none {t : Table n RouteEntry} {v : BitVec 20} (miss : ∀ i < n, ¬ (t.get i).matches v = true) :
    bestRoute v none t.rows = none := by
  refine bestRoute_of_all_passed fun e he hit => ?_
  obtain ⟨i, hi, rfl⟩ := (t.mem_rows_iff e).mp he
  exact absurd hit (miss i hi)

/-- The matching entry of greatest weight, the lowest-numbered of these, is a table's winner. -/
theorem bestRoute_rows_eq_get {t : Table n RouteEntry} {v : BitVec 20} {i : Nat} (hi : i < n)
    (hit : (t.get i).matches v = true)
    (greatest : ∀ j < n, (t.get j).matches v = true → maskWeight (t.get j).mask < maskWeight (t.get i).mask ∨
      (maskWeight (t.get j).mask = maskWeight (t.get i).mask ∧ i ≤ j)) :
    bestRoute v none t.rows = some (t.get i) := by
  obtain ⟨before, after, rows, inBefore, inAfter⟩ := t.rows_split hi
  rw [rows]
  refine bestRoute_append_cons hit (by simp) (fun x hx hitX => ?_) fun x hx hitX => ?_
  · obtain ⟨j, hj, rfl⟩ := inBefore x hx
    have := greatest j (by omega) hitX
    omega
  · obtain ⟨j, hj, rfl⟩ := inAfter x hx
    have := greatest j hj hitX
    omega

/-! ### Resolution (R14, R17) -/

theorem wellFormedCode_iff (code : BitVec 24) :
    wellFormedCode code = true ↔
      code.toNat % 16 = (code.toNat / 16 % 16 + code.toNat / 256 % 16 + code.toNat / 4096 % 16 + code.toNat / 65536 % 16 +
        code.toNat / 1048576) % 16 := by
  simp only [wellFormedCode, nibbleSum, beq_iff_eq]
  omega

theorem State.resolve_of_malformed {s : State} {code : BitVec 24} (bad : ¬ wellFormedCode code = true) :
    s.resolve code = .check := if_neg bad

/-- A well-formed code resolves as the winner says. -/
theorem State.resolve_of_wellFormed {s : State} {code : BitVec 24} {best : Option RouteEntry}
    (good : wellFormedCode code = true) (winner : bestRoute (routeValue code) none s.routes.rows = best) :
    s.resolve code = best.elim .noMatch fun e => if (s.depot e.depot).enabled then .to e.depot else .disabled := by
  rw [State.resolve, if_pos good, winner]
  cases best <;> rfl

/-- A resolution is a destination or gives destination 0. -/
theorem Resolution.dest_cases : ∀ r : Resolution, r.dest = 0 ∨ r = .to r.dest
  | .to _ => .inr rfl
  | .check | .noMatch | .disabled => .inl rfl

/-- Settles O10: the table's winner is the entry of greatest weight and lowest number, and a well-formed code resolves as it says. -/
theorem routeCodesResolveByGreatestWeight : Obligations.RouteCodesResolveByGreatestWeight := by
  refine ⟨fun s code => ⟨fun bad => ?_, fun good miss => ?_, fun good i hi hit greatest => ?_⟩, Resolution.dest_cases,
    ⟨rfl, rfl, rfl, rfl⟩, fun _ _ _ _ _ _ => rfl⟩
  · exact State.resolve_of_malformed (mt (wellFormedCode_iff code).mp bad)
  · exact State.resolve_of_wellFormed ((wellFormedCode_iff code).mpr good)
      (bestRoute_rows_eq_none fun i hi hit => miss i hi ((RouteEntry.matches_iff _ _).mp hit))
  · exact State.resolve_of_wellFormed ((wellFormedCode_iff code).mpr good)
      (bestRoute_rows_eq_get hi ((RouteEntry.matches_iff _ _).mpr hit)
        fun j hj hitJ => greatest j hj ((RouteEntry.matches_iff _ _).mp hitJ))

/-! ### SetRoute and ClearRoute (R15, R16) -/

/-- The entry that SetRoute stores: the bits of the match outside the mask are 0 (R15). -/
theorem State.setRoute_of_accepted {s : State} {n p m d : Nat}
    (good : n ≤ 255 ∧ p ≤ 0xFFFFF ∧ m ≤ 0xFFFFF ∧ 1 ≤ d ∧ d ≤ 127) (quiet : s.surveying = false) :
    s.setRoute n p m d = ⟨{ s with
      routes := s.routes.set n
        { pattern := BitVec.ofNat 20 (p &&& m), mask := BitVec.ofNat 20 m, depot := d, valid := true } }, .done, []⟩ := by
  rw [State.setRoute, if_neg (by omega), State.unlessSurvey_of_not _ quiet, BitVec.ofNat_and]
  rfl

theorem State.setRoute_of_badValue {s : State} {n p m d : Nat}
    (bad : ¬ (n ≤ 255 ∧ p ≤ 0xFFFFF ∧ m ≤ 0xFFFFF ∧ 1 ≤ d ∧ d ≤ 127)) : s.setRoute n p m d = ⟨s, .badValue, []⟩ :=
  if_pos (by omega)

theorem State.setRoute_of_surveying {s : State} {n p m d : Nat}
    (good : n ≤ 255 ∧ p ≤ 0xFFFFF ∧ m ≤ 0xFFFFF ∧ 1 ≤ d ∧ d ≤ 127) (survey : s.surveying = true) :
    s.setRoute n p m d = ⟨s, .notNow, []⟩ := by
  rw [State.setRoute, if_neg (by omega), State.unlessSurvey_of_surveying _ survey]
  rfl

theorem State.clearRoute_of_accepted {s : State} {n : Nat} (good : n ≤ 255) (quiet : s.surveying = false) :
    s.clearRoute n = ⟨{ s with routes := s.routes.set n RouteEntry.reset }, .done, []⟩ := by
  rw [State.clearRoute, if_neg (by omega), State.unlessSurvey_of_not _ quiet]
  rfl

theorem State.clearRoute_of_badValue {s : State} {n : Nat} (bad : 255 < n) : s.clearRoute n = ⟨s, .badValue, []⟩ := if_pos bad

theorem State.clearRoute_of_surveying {s : State} {n : Nat} (good : n ≤ 255) (survey : s.surveying = true) :
    s.clearRoute n = ⟨s, .notNow, []⟩ := by
  rw [State.clearRoute, if_neg (by omega), State.unlessSurvey_of_surveying _ survey]
  rfl

/-- A taken command's row leaves the state of its rule's answer with the reply made. -/
theorem exec_of_answer {c : Instr} {kind : Nat} {tag : Byte} {rule : State → Answer} {s t : State} {r : Result}
    {fields : List Byte} (row : exec c s = .next (s.interpret c kind tag rule)) (taken : s.takes c = true)
    (still : t.takes c = true) (answer : rule s = ⟨t, r, fields⟩) :
    exec c s = .next (t.replied (BitVec.ofNat 8 kind) tag r fields) :=
  row.trans (congrArg Host.Outcome.next (State.interpret_answered taken still answer))

/-! ### Reset and Restart (R15) -/

/-- Power-on and the release of the reset pin both leave every route entry at its reset value. -/
theorem exec_reset_routes (rate1 rate0 : Bool) (s : State) :
    ∃ t u, exec (.powerOn rate1 rate0) s = .next t ∧ exec (.resetPinRelease rate1 rate0) s = .next u ∧
      u.routes = t.routes ∧ t.routes = Table.fill 256 RouteEntry.reset := ⟨_, _, rfl, rfl, rfl, rfl⟩

/-- The rule of Restart keeps the route table. -/
theorem State.restart_routes {s : State} (started : s.started = true) (quiet : s.surveying = false) :
    s.restart.state.routes = s.routes := by
  rw [State.restart, if_pos started, State.unlessSurvey_of_not _ quiet]
  exact (LaneOnly.foldl (fun s x => s.mark_laneOnly x) s.restartMarks s.restarted).routes

/-- A taken Restart keeps the route table. -/
theorem exec_restart_routes {tag : Byte} {s : State} (taken : s.takes (.restart tag) = true) (started : s.started = true)
    (quiet : s.surveying = false) : ∃ t, exec (.restart tag) s = .next t ∧ t.routes = s.routes := by
  refine ⟨s.interpret (.restart tag) 0x8F tag State.restart, rfl, ?_⟩
  rw [s.interpret_of_takes _ _ _ _ taken, State.chooseFrame_routes]
  exact State.restart_routes started quiet

/-- Settles O11, one answer of the rules of SetRoute and ClearRoute at a time; reset and Restart are read off the table they leave. -/
theorem routeCommandsWriteTheTable : Obligations.RouteCommandsWriteTheTable := by
  refine ⟨⟨fun tag n p m d s taken => ⟨fun good quiet => ?_, fun bad _ => ?_, fun good survey => ?_⟩, fun rate1 rate0 s => ?_,
      fun tag s => exec_restart_routes⟩,
    fun tag n s taken => ⟨fun good quiet => ?_, fun bad _ => ?_, fun good survey => ?_⟩,
    fun tag s taken => ⟨fun quiet => ?_, fun survey => ?_⟩⟩
  · exact exec_of_answer rfl taken taken (State.setRoute_of_accepted good quiet)
  · exact exec_of_answer rfl taken taken (State.setRoute_of_badValue bad)
  · exact exec_of_answer rfl taken taken (State.setRoute_of_surveying good survey)
  · obtain ⟨t, u, power, pin, same, values⟩ := exec_reset_routes rate1 rate0 s
    exact ⟨t, u, power, pin, fun n hn => ⟨by rw [values, Table.get_fill _ _ hn]; rfl, by rw [same]⟩⟩
  · exact exec_of_answer rfl taken taken (State.clearRoute_of_accepted good quiet)
  · exact exec_of_answer rfl taken taken (State.clearRoute_of_badValue bad)
  · exact exec_of_answer rfl taken taken (State.clearRoute_of_surveying good survey)
  · refine ⟨{ s with routes := Table.fill 256 RouteEntry.reset }, ?_, fun n hn => Table.get_fill _ n hn, rfl⟩
    exact exec_of_answer rfl taken taken (State.unlessSurvey_of_not _ quiet)
  · exact exec_of_answer rfl taken taken (State.unlessSurvey_of_surveying _ survey)

end Machine

end Sys2Proof

/-!
PROOFS. The pallet summary (§3.11) and Identify (§11.4): the six state counts and their sum, the fields of the two replies, and
the pallet table that reset and Restart leave empty.
-/

namespace Sys2Proof.Machine

/-! ### The pallet summary (R44) -/

/-- The records in a state, counted among the states that the table's records have. -/
theorem State.palletsIn_eq_count (s : State) (st : PalletState) :
    s.palletsIn st = (s.pallets.map (fun r => r.place.state)).count st := by
  rw [State.palletsIn, ← List.countP_eq_length_filter, List.count_eq_countP, List.countP_map]
  rfl

/-- Each of a list's pallet states is one of the six, so the six counts make up the list. -/
theorem sum_count_palletState (l : List PalletState) :
    l.count .expected + l.count .moving + l.count .staged + l.count .held + l.count .loaded + l.count .missing =
      l.length := by
  induction l with
  | nil => rfl
  | cons st l ih =>
    cases st <;> simp <;> omega

/-- The six numbers of the summary sum to the number of records in use. -/
theorem State.sum_palletsIn (s : State) :
    s.palletsIn .expected + s.palletsIn .moving + s.palletsIn .staged + s.palletsIn .held + s.palletsIn .loaded +
      s.palletsIn .missing = s.pallets.length := by
  simpa only [State.palletsIn_eq_count, List.length_map] using
    sum_count_palletState (s.pallets.map (fun r => r.place.state))

/-- The fields of the summary, two bytes each: in use, free, and one number for each state. -/
theorem State.palletSummary_eq_emit (s : State) :
    s.palletSummary = emit ((2, s.pallets.length) :: (2, 4096 - s.pallets.length) ::
      [PalletState.expected, .moving, .staged, .held, .loaded, .missing].map (fun st => (2, s.palletsIn st))) := by
  simp only [State.palletSummary, Config.maxPallets, u16_eq_beBytes, emit_cons, emit_map, List.append_assoc]

/-! ### Identify (R186) -/

/-- Each flag of Identify has the weight of its bit, 0 to 3. -/
theorem State.identifyFlags_eq (s : State) :
    s.identifyFlags = (if s.startUp.configured then 1 else 0) + (if s.clock.rolledOver then 2 else 0) +
      (if s.surveying then 4 else 0) + (if s.clock.ending then 8 else 0) := by
  have weighted (b : Bool) (w : Nat) : (if b then w else 0) = w * b.toNat := by cases b <;> simp
  change flagBits [s.startUp.configured, s.clock.rolledOver, s.surveying, s.clock.ending] = _
  simp only [flagBits, List.foldr, weighted]
  omega

/-- The rule of Identify answers with the two bytes of the part code and a byte for each further field. -/
theorem State.identify_eq (s : State) :
    s.identify = s.done [0x72, 0x40, 0x01, BitVec.ofNat 8 s.startUp.cause.code, BitVec.ofNat 8 s.clock.phase.code,
      BitVec.ofNat 8 s.identifyFlags] := rfl

theorem ResetCause.ofNat_code (c : ResetCause) :
    BitVec.ofNat 8 c.code = match c with | .power => 1 | .pin => 2 | .restart => 3 := by cases c <;> rfl

theorem Phase.ofNat_code (p : Phase) :
    BitVec.ofNat 8 p.code =
      match p with | .unconfigured => 0 | .idle => 1 | .intake => 2 | .transfer => 3 | .close => 4 := by cases p <;> rfl

/-- A flag's bit as a byte. -/
theorem ofNat_flag (b : Bool) (w : Nat) : BitVec.ofNat 8 (if b then w else 0) = if b then BitVec.ofNat 8 w else 0 := by
  cases b <;> rfl

/-! ### Reset and Restart (R28) -/

/-- Power-on and the release of the reset pin both leave the pallet table empty. -/
theorem exec_reset_pallets (rate1 rate0 : Bool) (s : State) :
    ∃ t u, exec (.powerOn rate1 rate0) s = .next t ∧ exec (.resetPinRelease rate1 rate0) s = .next u ∧
      t.pallets = [] ∧ u.pallets = [] := ⟨_, _, rfl, rfl, rfl, rfl⟩

/-- The rule of Restart frees every pallet record. -/
theorem State.restart_pallets {s : State} (started : s.started = true) (quiet : s.surveying = false) :
    s.restart.state.pallets = [] := by
  rw [State.restart, if_pos started, State.unlessSurvey_of_not _ quiet]
  exact (LaneOnly.foldl (fun s x => s.mark_laneOnly x) s.restartMarks s.restarted).pallets

/-- A taken Restart leaves the pallet table empty. -/
theorem exec_restart_pallets {tag : Byte} {s : State} (taken : s.takes (.restart tag) = true) (started : s.started = true)
    (quiet : s.surveying = false) : ∃ t, exec (.restart tag) s = .next t ∧ t.pallets = [] := by
  refine ⟨s.interpret (.restart tag) 0x8F tag State.restart, rfl, ?_⟩
  rw [s.interpret_of_takes _ _ _ _ taken, State.chooseFrame_pallets]
  exact State.restart_pallets started quiet

/-- Settles O49: both queries answer with the state they find, so each clause is the reply's fields read byte by byte, and the six
counts cover the table; reset and Restart are read off the table they leave. -/
theorem summaryAndIdentifyAreAnswered : Obligations.SummaryAndIdentifyAreAnswered := by
  refine ⟨fun tag s taken => ⟨?_, s.sum_palletsIn⟩, fun rate1 rate0 s => ?_, fun tag s taken started quiet => ?_,
    fun tag s taken => ?_⟩
  · exact exec_of_answer rfl taken taken (congrArg (Answer.mk s .done) s.palletSummary_eq_emit)
  · obtain ⟨t, u, power, pin, emptyT, emptyU⟩ := exec_reset_pallets rate1 rate0 s
    exact ⟨t, u, power, pin, by rw [emptyT]; rfl, by rw [emptyU]; rfl⟩
  · obtain ⟨t, run, empty⟩ := exec_restart_pallets taken started quiet
    exact ⟨t, run, by rw [empty]; rfl⟩
  · rw [exec_of_answer rfl taken taken s.identify_eq, s.identifyFlags_eq, ResetCause.ofNat_code, Phase.ofNat_code]
    simp only [BitVec.ofNat_add, ofNat_flag]
    rfl

end Sys2Proof.Machine

/-!
PROOFS. The dispatch settings (§7.1): the ranges that SetDispatch brings them into, and the two answers of its rule.
-/

namespace Sys2Proof.Machine

/-! ### Clamped settings -/

/-- A value brought into a range is cut off above, then raised below. -/
theorem clamp_eq_max_min {lo hi : Nat} (range : lo ≤ hi) (v : Nat) : clamp lo hi v = max lo (min hi v) := by
  rw [clamp]
  split
  · omega
  · split <;> omega

/-- A range from 0 cuts off above only. -/
theorem clamp_zero (hi v : Nat) : clamp 0 hi v = min hi v := by
  rw [clamp_eq_max_min hi.zero_le, Nat.zero_max]

/-- An acceptance shows the settings as stored exactly where they differ from those given. -/
theorem State.doneOrClamped_bne {α : Type} [DecidableEq α] (s : State) (stored given : α) (fields : List Byte) :
    s.doneOrClamped (stored != given) fields =
      ⟨s, if stored = given then .done else .doneClamped, if stored = given then [] else fields⟩ := by
  by_cases same : stored = given
  · simp [State.doneOrClamped, State.done, same]
  · simp [State.doneOrClamped, same]

/-! ### SetDispatch (R122) -/

/-- Each dispatch setting in its range of §7.1. -/
theorem clampDispatch_eq (d : DispatchSettings) :
    clampDispatch d =
      { loadSlots := min 8 d.loadSlots, urgencyLead := max 300 (min 7200 d.urgencyLead),
        offerTime := max 10 (min 120 d.offerTime), unloadLimit := runLimitOf d.unloadLimit,
        loadLimit := runLimitOf d.loadLimit, relocLimit := runLimitOf d.relocLimit,
        laneBase := max 30 (min 900 d.laneBase), doorBase := max 30 (min 900 d.doorBase),
        directBase := max 30 (min 900 d.directBase), relocBase := max 30 (min 900 d.relocBase),
        changeover := min 600 d.changeover } := by
  simp only [clampDispatch, clamp_zero, clamp_eq_max_min (show 300 ≤ 7200 by decide),
    clamp_eq_max_min (show 10 ≤ 120 by decide), clamp_eq_max_min (show 30 ≤ 900 by decide)]

/-- The scheduler's state is none of the conditions of the interpreter. -/
@[simp] theorem State.takes_withSched (s : State) (x : Scheduler) (c : Instr) :
    State.takes { s with sched := x } c = s.takes c := rfl

/-- The rule of SetDispatch outside the survey. -/
theorem State.setDispatch_of_not_surveying {s : State} (d : DispatchSettings) (quiet : s.surveying = false) :
    s.setDispatch d = ⟨{ s with sched := { s.sched with settings := clampDispatch d } },
      if clampDispatch d = d then .done else .doneClamped,
      if clampDispatch d = d then [] else emit (dispatchFields (clampDispatch d))⟩ := by
  rw [State.setDispatch, State.unlessSurvey_of_not _ quiet, State.doneOrClamped_bne]

/-- Settles O31: the rule's answer during the survey and outside it, with the stored settings written out by their ranges. -/
theorem setDispatchClampsEachSetting : Obligations.SetDispatchClampsEachSetting := by
  refine fun tag d s taken => ⟨fun survey => ?_, fun quiet => ?_⟩
  · exact exec_of_answer rfl taken taken (State.unlessSurvey_of_surveying _ survey)
  · have inRange := exec_of_answer rfl taken (by simpa using taken) (State.setDispatch_of_not_surveying d quiet)
    rw [clampDispatch_eq] at inRange
    exact inRange

end Sys2Proof.Machine

/-!
PROOFS. Raising an exception (§9.2): what a raising leaves in the list, one case of R162 and R163 at a time, and that the keys of
the entries stay apart.
-/

namespace Sys2Proof.Machine

/-! ### A list in which one entry meets a test -/

section
variable (p : ExcEntry → Bool) {e : ExcEntry} {before after : List ExcEntry}

/-- Coalescing into what meets the test changes that entry in its place. -/
theorem coalesce_of_only (n : Nat) (v : Bool) (d : Nat) (hit : p e = true) (only : ∀ y ∈ before ++ after, ¬ p y = true) :
    (before ++ e :: after).map (fun a => if p a then a.again n v d else a) = before ++ e.again n v d :: after := by
  have same (l : List ExcEntry) (sub : ∀ y ∈ l, y ∈ before ++ after) : l.map (fun a => if p a then a.again n v d else a) = l :=
    (List.map_congr_left fun y hy => if_neg (only y (sub y hy))).trans l.map_id
  rw [List.map_append, List.map_cons, if_pos hit, same before fun _ => List.mem_append_left after,
    same after fun _ => List.mem_append_right before]

/-- Removing what meets the test removes that entry, and the later ones move up. -/
theorem filter_not_of_only (hit : p e = true) (only : ∀ y ∈ before ++ after, ¬ p y = true) :
    (before ++ e :: after).filter (fun a => !p a) = before ++ after := by
  have all : (before ++ after).filter (fun a => !p a) = before ++ after :=
    List.filter_eq_self.mpr fun y hy => by simpa using only y hy
  rw [List.filter_append, List.filter_cons_of_neg (by simp [hit]), ← List.filter_append, all]

/-- A search for the test finds that entry. -/
theorem find?_of_only (hit : p e = true) (only : ∀ y ∈ before ++ after, ¬ p y = true) :
    (before ++ e :: after).find? p = some e :=
  List.find?_eq_some_iff_append.mpr
    ⟨hit, before, after, rfl, fun y hy => by simpa using only y (List.mem_append_left after hy)⟩

end

/-! ### Entries and their keys (§9.1, R162) -/

theorem ExcEntry.hasKey_iff_fields (e : ExcEntry) (k : ExcKind) (x : ExcSubject) :
    e.hasKey k x = true ↔ e.kind = k ∧ e.subject = x := by
  simp [ExcEntry.hasKey]

/-- A coalescing counts up to 255, and takes the time, the clock mark and the detail of the raising. -/
theorem ExcEntry.again_eq (e : ExcEntry) (now : Nat) (valid : Bool) (detail : Nat) :
    e.again now valid detail =
      { e with count := if e.count < 255 then e.count + 1 else 255, last := now, mark := valid, detail := detail } := by
  have count : min 255 (e.count + 1) = if e.count < 255 then e.count + 1 else 255 := by split <;> omega
  rw [ExcEntry.again, count]

/-! ### The entries after a raising (R162, R163) -/

section
variable {l : ExcList} {k : ExcKind} {x : ExcSubject} (now : Nat) (valid : Bool) (detail : Nat)
  {before after : List ExcEntry} {e : ExcEntry}

/-- A raising whose key an entry has coalesces into it (R162). -/
theorem ExcList.raised_of_known (entries : l.entries = before ++ e :: after) (hit : e.hasKey k x = true)
    (only : ∀ y ∈ before ++ after, ¬ y.hasKey k x = true) :
    l.raised k x now valid detail = before ++ e.again now valid detail :: after := by
  have known : l.entries.any (·.hasKey k x) = true := by simp [entries, hit]
  rw [ExcList.raised, if_pos known, entries]
  exact coalesce_of_only (·.hasKey k x) _ _ _ hit only

/-- A raising with a new key makes an entry at the end while fewer than 63 ordinary entries stand (R163). -/
theorem ExcList.raised_of_room (new : ∀ y ∈ l.entries, ¬ y.hasKey k x = true) (room : l.ordinary < Config.maxOrdinary) :
    l.raised k x now valid detail = l.entries ++ [ExcEntry.new k x now valid detail] := by
  rw [ExcList.raised, if_neg (by simpa using new), if_pos room]

/-- A lost raising makes the overflow entry where none stands (R163). -/
theorem ExcList.raised_of_full_first (new : ∀ y ∈ l.entries, ¬ y.hasKey k x = true) (full : Config.maxOrdinary ≤ l.ordinary)
    (first : ∀ y ∈ l.entries, ¬ y.hasKey .listOverflow .none = true) :
    l.raised k x now valid detail =
      l.entries ++ [ExcEntry.new .listOverflow .none now valid (lostDetail k x)] := by
  rw [ExcList.raised, if_neg (by simpa using new), if_neg (Nat.not_lt.mpr full), if_neg (by simpa using first)]

/-- A lost raising is merged into the overflow entry that stands (R163). -/
theorem ExcList.raised_of_full_merge (new : ∀ y ∈ l.entries, ¬ y.hasKey k x = true) (full : Config.maxOrdinary ≤ l.ordinary)
    (entries : l.entries = before ++ e :: after) (hit : e.hasKey .listOverflow .none = true)
    (only : ∀ y ∈ before ++ after, ¬ y.hasKey .listOverflow .none = true) :
    l.raised k x now valid detail = before ++ e.again now valid (lostDetail k x) :: after := by
  have stands : l.entries.any (·.hasKey .listOverflow .none) = true := by simp [entries, hit]
  rw [ExcList.raised, if_neg (by simpa using new), if_neg (Nat.not_lt.mpr full), if_pos stands, entries]
  exact coalesce_of_only (·.hasKey .listOverflow .none) _ _ _ hit only

end

/-- A key that no entry has is none of the list's keys. -/
theorem key_notMem_of_new {entries : List ExcEntry} {k : ExcKind} {x : ExcSubject}
    (new : ¬ entries.any (·.hasKey k x) = true) : (k, x) ∉ entries.map ExcEntry.key := fun mem => by
  obtain ⟨e, he, key⟩ := List.mem_map.mp mem
  exact new (List.any_eq_true.mpr ⟨e, he, (e.hasKey_iff k x).mpr key⟩)

/-- A raising leaves the list's keys as they were, or puts a new one at the end. -/
theorem ExcList.raised_keys (l : ExcList) (k : ExcKind) (x : ExcSubject) (now : Nat) (valid : Bool) (detail : Nat) :
    (l.raised k x now valid detail).map ExcEntry.key = l.entries.map ExcEntry.key ∨
      ∃ key ∉ l.entries.map ExcEntry.key,
        (l.raised k x now valid detail).map ExcEntry.key = l.entries.map ExcEntry.key ++ [key] := by
  unfold ExcList.raised
  split
  · exact .inl (coalesce_keys _ _ _ _ _)
  next new =>
    split
    · exact .inr ⟨(k, x), key_notMem_of_new new, List.map_append⟩
    · split
      · exact .inl (coalesce_keys _ _ _ _ _)
      next first => exact .inr ⟨(.listOverflow, .none), key_notMem_of_new first, List.map_append⟩

/-- A raising keeps the keys of the entries apart (R162). -/
theorem ExcList.raised_keys_nodup {l : ExcList} (k : ExcKind) (x : ExcSubject) (now : Nat) (valid : Bool) (detail : Nat)
    (apart : (l.entries.map ExcEntry.key).Nodup) : ((l.raised k x now valid detail).map ExcEntry.key).Nodup := by
  obtain same | ⟨key, new, more⟩ := l.raised_keys k x now valid detail
  · rwa [same]
  · rw [more]
    refine List.nodup_append.mpr ⟨apart, List.pairwise_singleton _ _, fun old mem other isKey same => ?_⟩
    rw [List.eq_of_mem_singleton isKey] at same
    exact new (same ▸ mem)

/-! ### A change of the list (R161, R168) -/

theorem State.setExceptions_exceptions (s : State) (l : List ExcEntry) :
    (s.setExceptions l).exceptions = { entries := l, changes := (s.exceptions.changes + 1) % 65536 } :=
  State.mark_exceptions _ _

theorem State.setExceptions_link (s : State) (l : List ExcEntry) :
    (s.setExceptions l).link = { s.link with reports := (s.setExceptions l).link.reports } :=
  State.mark_link _ _

/-- A change of the list changes the list and the station link only. -/
theorem State.setExceptions_frame (s : State) (l : List ExcEntry) :
    { s.setExceptions l with exceptions := s.exceptions, link := s.link } = s := by
  unfold State.setExceptions State.mark
  split <;> rfl

@[simp] theorem State.takes_setExceptions (s : State) (l : List ExcEntry) (c : Instr) :
    (s.setExceptions l).takes c = s.takes c :=
  State.takes_mark _ _ c

theorem State.raise_entries (s : State) (k : ExcKind) (x : ExcSubject) (detail : Nat) :
    (s.raise k x detail).exceptions.entries = s.exceptions.raised k x s.now s.clock.valid detail :=
  congrArg ExcList.entries (s.setExceptions_exceptions _)

theorem State.raise_changes (s : State) (k : ExcKind) (x : ExcSubject) (detail : Nat) :
    (s.raise k x detail).exceptions.changes = (s.exceptions.changes + 1) % 65536 :=
  congrArg ExcList.changes (s.setExceptions_exceptions _)

/-- Settles O46: the list after a raising is read off the four cases of `ExcList.raised`; none of them repeats a key. -/
theorem raisingKeepsOneEntryPerKey : Obligations.RaisingKeepsOneEntryPerKey := by
  simp only [Obligations.RaisingKeepsOneEntryPerKey, State.raise_entries, ← ExcEntry.again_eq, ← ExcEntry.hasKey_iff_fields]
  refine ⟨fun s k x detail => ⟨s.raise_changes k x detail, State.mem_mark _ _⟩,
    ⟨fun s k x detail before after e entries kind subject only => ?_, fun s k x detail => ExcList.raised_keys_nodup k x _ _ _⟩,
    fun s k x detail new => ⟨fun room => ?_, fun full first => ?_, fun before e after full entries kind subject only => ?_⟩⟩
  · exact ExcList.raised_of_known _ _ _ entries ((e.hasKey_iff_fields k x).mpr ⟨kind, subject⟩) only
  · exact ExcList.raised_of_room _ _ _ new room
  · exact ExcList.raised_of_full_first _ _ _ new full first
  · exact ExcList.raised_of_full_merge _ _ detail new full entries ((e.hasKey_iff_fields _ _).mpr ⟨kind, subject⟩) only

end Sys2Proof.Machine

/-!
PROOFS. ClearException (§9.5): the rules of its two forms, one row of R166's table at a time, and the reply that carries the change
count.
-/

namespace Sys2Proof.Machine

/-! ### The reply of a command that changed the link's reports only -/

/-- The reply made in a state whose link differs from the one before in its reports only is the one that the earlier link shows. -/
theorem State.shows_replied {s t : State} (kind tag : Byte) (r : Result) (fields : List Byte)
    (link : t.link = { s.link with reports := t.link.reports }) :
    s.shows (t.replied kind tag r fields) kind tag r fields = true := by
  have sendingEq : t.link.sending = s.link.sending := by rw [link]
  unfold State.shows State.replied Link.replying
  rw [sendingEq]
  cases s.link.sending with
  | some o => simp
  | none => rw [link]; simp [Link.replyFrame]

/-! ### The one-entry form (R166) -/

theorem ExcEntry.codesAre_iff (e : ExcEntry) (kind type number : Nat) :
    e.codesAre kind type number = true ↔ e.kind.code = kind ∧ e.subject.typeCode = type ∧ e.subject.number = number := by
  simp [ExcEntry.codesAre, and_assoc]

section
variable {s : State} {kind type number count : Nat}

theorem State.clearException_of_badValue (quiet : s.surveying = false) (bad : kind = 0 ∨ 19 < kind ∨ 5 < type) :
    s.clearException kind type number count = ⟨s, .badValue, []⟩ := by
  rw [State.clearException, State.unlessSurvey_of_not _ quiet, if_pos]
  · rfl
  · simp only [within, decide_eq_false_iff_not]
    omega

/-- Past the first two checks the rule answers by the entry that it finds. -/
theorem State.clearException_of_codes (quiet : s.surveying = false) (low : 1 ≤ kind) (high : kind ≤ 19) (inTypes : type ≤ 5)
    {found : Option ExcEntry} (search : s.exceptions.entries.find? (·.codesAre kind type number) = found) :
    s.clearException kind type number count = found.elim (s.refuse .unknown) fun e =>
      if count ≠ 0 ∧ count ≠ e.count then s.refuse .conflict (u8 e.count ++ u24 e.last)
      else
        let t := s.setExceptions (s.exceptions.entries.filter (fun e => !e.codesAre kind type number))
        t.done (u16 t.exceptions.changes) := by
  rw [State.clearException, State.unlessSurvey_of_not _ quiet, if_neg, search]
  · cases found <;> rfl
  · simp only [within, decide_eq_false_iff_not]
    omega

theorem State.clearException_of_unknown (quiet : s.surveying = false) (low : 1 ≤ kind) (high : kind ≤ 19) (inTypes : type ≤ 5)
    (absent : ∀ e ∈ s.exceptions.entries, ¬ e.codesAre kind type number = true) :
    s.clearException kind type number count = ⟨s, .unknown, []⟩ :=
  State.clearException_of_codes quiet low high inTypes (List.find?_eq_none.mpr absent)

/-- The rule's answer where one entry has the key: the guard decides between a refusal and that entry's removal. -/
theorem State.clearException_of_only {before after : List ExcEntry} {e : ExcEntry} (quiet : s.surveying = false)
    (low : 1 ≤ kind) (high : kind ≤ 19) (inTypes : type ≤ 5) (entries : s.exceptions.entries = before ++ e :: after)
    (hit : e.codesAre kind type number = true) (only : ∀ y ∈ before ++ after, ¬ y.codesAre kind type number = true) :
    s.clearException kind type number count =
      if count ≠ 0 ∧ count ≠ e.count then ⟨s, .conflict, u8 e.count ++ u24 e.last⟩
      else ⟨s.setExceptions (before ++ after), .done, u16 (s.setExceptions (before ++ after)).exceptions.changes⟩ := by
  have found : s.exceptions.entries.find? (·.codesAre kind type number) = some e := entries ▸ find?_of_only _ hit only
  have left : s.exceptions.entries.filter (fun e => !e.codesAre kind type number) = before ++ after :=
    entries ▸ filter_not_of_only (·.codesAre kind type number) hit only
  rw [State.clearException_of_codes quiet low high inTypes found, left]
  rfl

end

/-! ### The all form (R167) -/

theorem State.clearExceptions_of_empty {s : State} (quiet : s.surveying = false) (empty : s.exceptions.entries = []) :
    s.clearExceptions = ⟨s, .done, u8 0 ++ u16 s.exceptions.changes⟩ := by
  simp [State.clearExceptions, State.unlessSurvey_of_not _ quiet, empty, State.done]

theorem State.clearExceptions_of_entries {s : State} (quiet : s.surveying = false) (entries : s.exceptions.entries ≠ []) :
    s.clearExceptions = ⟨s.setExceptions [], .done,
      u8 s.exceptions.entries.length ++ u16 (s.setExceptions []).exceptions.changes⟩ := by
  simp [State.clearExceptions, State.unlessSurvey_of_not _ quiet, entries, State.done]

/-- Settles O47, one check of R166 at a time and then the all form of R167: an accepted clear is one change of the list, and its
reply is the one made after that change. -/
theorem clearingRemovesEntries : Obligations.ClearingRemovesEntries := by
  simp only [Obligations.ClearingRemovesEntries, ← ExcEntry.codesAre_iff]
  refine ⟨fun tag kind type number count s taken => ⟨fun survey => ?_, fun quiet bad => ?_, fun quiet low high inTypes =>
      ⟨fun absent => ?_, fun before e after entries kindIs typeIs numberIs only => ?_⟩⟩,
    fun tag s taken => ⟨fun survey => ?_, fun quiet empty => ?_, fun quiet entries => ?_⟩⟩
  · exact exec_of_answer rfl taken taken (State.unlessSurvey_of_surveying _ survey)
  · exact exec_of_answer rfl taken taken (State.clearException_of_badValue quiet bad)
  · exact exec_of_answer rfl taken taken (State.clearException_of_unknown quiet low high inTypes absent)
  · have hit := (e.codesAre_iff kind type number).mpr ⟨kindIs, typeIs, numberIs⟩
    refine ⟨fun nonzero differs => ?_, fun agrees => ?_⟩
    · exact exec_of_answer rfl taken taken
        ((State.clearException_of_only quiet low high inTypes entries hit only).trans (if_pos ⟨nonzero, differs⟩))
    · have list := s.setExceptions_exceptions (before ++ after)
      refine ⟨_, exec_of_answer rfl taken (by simpa using taken)
        ((State.clearException_of_only quiet low high inTypes entries hit only).trans (if_neg (by omega))), ?_,
        congrArg ExcList.entries list, congrArg ExcList.changes list, s.setExceptions_frame _⟩
      exact State.shows_replied _ _ _ _ (s.setExceptions_link _)
  · exact exec_of_answer rfl taken taken (State.unlessSurvey_of_surveying _ survey)
  · exact exec_of_answer rfl taken taken (State.clearExceptions_of_empty quiet empty)
  · have list := s.setExceptions_exceptions []
    exact ⟨s.setExceptions [], exec_of_answer rfl taken (by simpa using taken) (State.clearExceptions_of_entries quiet entries),
      congrArg ExcList.entries list, congrArg ExcList.changes list, s.setExceptions_frame []⟩

end Sys2Proof.Machine
